-- ==== Sys2Proof/Word.lean ====
section
/-! DEFINITION. The words of the VB4216: bytes and 4-byte values, the names of ports and links, the indices of the tables, and text as bytes. -/

namespace Sys2Proof

/-- One byte of a frame. -/
abbrev Byte := BitVec 8

/-- A 4-byte point value, identity word or counter (R165). -/
abbrev Word32 := BitVec 32

/-- A run of characters with their exact codes: a station name, an element name, a unit text. -/
abbrev Text := List Byte

/-- The three host ports. -/
inductive PortId where
  | h0
  | h1
  | h2
deriving DecidableEq, Repr

/-- The two field links. -/
inductive LinkId where
  | l0
  | l1
deriving DecidableEq, Repr

/-- The wire number of a port: 0 for H0, 1 for H1, 2 for H2 (ch. 8.2). -/
def PortId.toNat : PortId → Nat
  | .h0 => 0
  | .h1 => 1
  | .h2 => 2

/-- The wire number of a link (ch. 8.2). -/
def LinkId.toNat : LinkId → Nat
  | .l0 => 0
  | .l1 => 1

/-- A directory slot, 0 to 511. -/
abbrev DirSlot := Fin 512

/-- A node slot, 0 to 31: link × 16 + address − 1. -/
abbrev NodeSlot := Fin 32

/-- A lease index, 0 to 63. -/
abbrev LeaseIndex := Fin 64

/-- A node address of one link, LESS ONE: address a of the spec (1 to 16) is the number a − 1. -/
abbrev NodeAddr := Fin 16

end Sys2Proof
end

