-- ==== Sys2Proof/Syntax.lean ====
section
/-! DEFINITION. The commands of the VB4216: one constructor for each row of spec/opcode_table.json. -/

namespace Sys2Proof

/-- What the part has seen of a window at the rising edge of CSn: the level of SDIn at each rising edge of SCKn, oldest first (R141), and the
levels on the SUPSEL inputs, which matter only where the close triggers the reset of a RESET_DEVICE, whose end samples them (R155, R160,
R164). -/
structure CloseEdge where
  sdi : List Bool
  supsel1 : Bool
  supsel0 : Bool
deriving DecidableEq, Repr

/-- The steps of the part, each whole and indivisible (spec/95_what_each_step_holds.md).
The request rows are the GRANTS of the request engine (R152): the operands of a granted request are the parameter bytes of
the frame held in the slot that the engine takes, so these rows carry none of their own. -/
inductive Instr where
  /-- RESET: power-on, or a low level on RESETn (R160). -/
  | reset
  /-- RESET_END: the reset ends and the SUPSEL levels are sampled (R155, R160). -/
  | resetEnd (supsel1 supsel0 : Bool)
  /-- CHECK_END: the record-store test of CHECKING ends (R161). -/
  | checkEnd (passed : Bool)
  /-- WINDOW_OPEN: the falling edge of CSn (R143). -/
  | windowOpen (port : PortId)
  /-- WINDOW_CLOSE: the rising edge of CSn (R142). -/
  | windowClose (port : PortId) (edge : CloseEdge)
  /-- POLL_REQUEST (R153). -/
  | pollRequest
  /-- UNKNOWN_REQUEST (R153). -/
  | unknownRequest
  /-- LOOKUP (R22). -/
  | lookup
  /-- LIST_POINTS (R23). -/
  | listPoints
  /-- DESCRIBE_POINT (R24). -/
  | describePoint
  /-- POINT_SUMMARY (R25). -/
  | pointSummary
  /-- NODE_INFO (R50). -/
  | nodeInfo
  /-- LIST_NODES (R51). -/
  | listNodes
  /-- NAME_NODE (R49). -/
  | nameNode
  /-- RESCAN_NODE (R52). -/
  | rescanNode
  /-- EXCLUDE_NODE (R53). -/
  | excludeNode
  /-- INCLUDE_NODE (R54). -/
  | includeNode
  /-- FORGET_NODE (R55). -/
  | forgetNode
  /-- START_LINK (R79). -/
  | startLink
  /-- STOP_LINK (R80). -/
  | stopLink
  /-- SET_LINK (R82). -/
  | setLink
  /-- LINK_STATUS (R84). -/
  | linkStatus
  /-- READ (R97). -/
  | read
  /-- WRITE (R98). -/
  | write
  /-- SET_SAFE (R101). -/
  | setSafe
  /-- SUBSTITUTE (R102). -/
  | substitute
  /-- UNSUBSTITUTE (R104). -/
  | unsubstitute
  /-- OPEN_LEASE (R111). -/
  | openLease
  /-- CLAIM (R112). -/
  | claim
  /-- RELEASE (R118). -/
  | release
  /-- RENEW (R115). -/
  | renew
  /-- CLOSE_LEASE (R119). -/
  | closeLease
  /-- REVOKE (R121). -/
  | revoke
  /-- LEASE_INFO (R125). -/
  | leaseInfo
  /-- WATCH (R131). -/
  | watch
  /-- UNWATCH (R132). -/
  | unwatch
  /-- SET_DEADBAND (R133). -/
  | setDeadband
  /-- NEXT_CHANGES (R134). -/
  | nextChanges
  /-- ACK_CHANGES (R136). -/
  | ackChanges
  /-- DEVICE_INFO (R159). -/
  | deviceInfo
  /-- OPEN_SESSION (R156). -/
  | openSession
  /-- CLOSE_SESSION (R157). -/
  | closeSession
  /-- SET_ATTENTION (R151). -/
  | setAttention
  /-- RESET_DEVICE (R164). -/
  | resetDevice
  /-- LEASE_CLOCK_TICK: one 1 ms tick of the time base (R114). -/
  | leaseClockTick
  /-- LEASE_EXPIRY: the tick at which the lease at this index expires (R114). -/
  | leaseExpiry (index : Nat)
  /-- CYCLE_TIMER_EXPIRY (R75). -/
  | cycleTimerExpiry (link : LinkId)
  /-- CALL_BUILD: the line guard is met (R63). -/
  | callBuild (link : LinkId)
  /-- ATTEMPT_RETRY: the line guard is met after a failed attempt (R63). -/
  | attemptRetry (link : LinkId)
  /-- ANSWER_RECEIVED, with the characters received (R62). -/
  | answerReceived (link : LinkId) (frame : List Byte)
  /-- REPLY_TIMEOUT (R61). -/
  | replyTimeout (link : LinkId)
  /-- ANSWER_BAD_LENGTH, with the answer's fourth byte (R61). -/
  | answerBadLength (link : LinkId) (length : Byte)
  /-- ANSWER_TRUNCATED (R61). -/
  | answerTruncated (link : LinkId)
  /-- FRAMING_FAULT (R59). -/
  | framingFault (link : LinkId)
  /-- BROADCAST_PARK_COMPLETION (R81). -/
  | broadcastParkCompletion (link : LinkId)
deriving DecidableEq, Repr

end Sys2Proof
end

