-- ==== Sys2Proof/Decode.lean ====
section
/-! DEFINITION. Reading a command from the bits of a table row. No row of spec/opcode_table.json gives bits. -/

namespace Sys2Proof

/-- The command that a word spells by the table's bits. The table gives no row any bits (its rows are the part's steps), so
no word spells a command. Host request frames are judged in Machine/Windows.lean (R142). -/
def decodeTableWord (_nbits _w : Nat) : Option Instr := none

end Sys2Proof
end

