-- ==== Sys2Proof/Config.lean ====
section
/-! DEFINITION. What is fixed for the part: its codes and capacities. The spec leaves no value open, so no free value stands here. -/

namespace Sys2Proof.Config

/-- The vendor code of Iskeru (ch. 8.4). -/
def vendorCode : Nat := 0x0A31

/-- The part code of the VB4216 (ch. 8.4). -/
def partCode : Nat := 0x4216

/-- The silicon revision number this manual describes (R159). -/
def siliconRevision : Nat := 1

/-- The capacities that OPEN_SESSION and DEVICE_INFO report (R156, R159). -/
def pointRecords : Nat := 512
def nodeRecords : Nat := 32
def leaseRecords : Nat := 64
def hostPorts : Nat := 3
def fieldLinks : Nat := 2

/-- Request slots of one host port (R144). -/
def slotsPerPort : Nat := 4

/-- Members of one lease (R106). -/
def membersPerLease : Nat := 32

/-- Elements of one node (R31). -/
def elementsPerNode : Nat := 48

/-- Bytes of one node's input or output image (R31). -/
def imageBytes : Nat := 32

/-- The largest payload of a field answer (R61). -/
def answerPayload : Nat := 40

end Sys2Proof.Config
end

