-- ==== Sys2Proof/Machine/State.lean ====
section
/-! DEFINITION. The state of the VB4216 as plain data: every record, setting, counter and mode the spec gives the part, the
queue of waiting commands, and the state right after a reset. -/

namespace Sys2Proof.Machine

/-! ## Point records -/

/-- A set of host ports: a watch set, a mark set, the supervisor set. -/
structure PortSet where
  h0 : Bool
  h1 : Bool
  h2 : Bool
deriving DecidableEq, Repr

/-- The five states of a point record (ch. 1.3). -/
inductive PointState where
  | free
  | reserved
  | live
  | orphaned
  | retired
deriving DecidableEq, Repr

/-- Element kinds (R1, R36). `pad` has code 0: it occurs in descriptors, and in a FREE record, where every static field is 0
(R3). -/
inductive Kind where
  | pad
  | flag
  | bits
  | unsigned
  | signed
deriving DecidableEq, Repr

/-- The direction of an element or point (R1). -/
inductive Direction where
  | inp
  | out
deriving DecidableEq, Repr

/-- The confidence attached to a point's value (ch. 4). -/
inductive Quality where
  | none
  | good
  | suspect
  | stale
  | substituted
  | safe
  | lost
deriving DecidableEq, Repr

/-- One of the 512 point records: state and generation, the static fields of R1, the dynamic fields of R2, R85 and R86. -/
structure PointRecord where
  state : PointState
  generation : Nat
  nodeSlot : NodeSlot
  elementIndex : Nat
  kind : Kind
  direction : Direction
  width : Nat
  imageOffset : Nat
  elementName : Text
  unitText : Option Text
  rawLow : Word32
  rawHigh : Word32
  descriptorSafe : Word32
  safeValue : Word32
  value : Word32
  fieldValue : Word32
  fieldQuality : Quality
  demand : Word32
  applied : Option Word32
  pending : Bool
  inFlight : Option Word32
  quality : Quality
  lease : Option LeaseIndex
  substPort : Option PortId
  revision : BitVec 16
  deadband : Nat
  markRef : Word32
  watch : PortSet
  mark : PortSet
deriving DecidableEq, Repr

/-! ## Node records -/

/-- The seven node states (ch. 2.2). -/
inductive NodeState where
  | vacant
  | describing
  | online
  | resync
  | lost
  | refused
  | parked
deriving DecidableEq, Repr

/-- Why a node was refused, or why a LOST node has not returned (R27). -/
inductive RefuseReason where
  | descriptor
  | layout
  | directoryFull
  | cycleTooSlow
  | badIdentity
deriving DecidableEq, Repr

/-- Why a node became LOST (R27). -/
inductive LostCause where
  | failed
  | stopped
deriving DecidableEq, Repr

/-- The identity fields of a node record: what R44 compares. The hold time is in ms. -/
structure Identity where
  typeText : Text
  unitNumber : Word32
  layoutSignature : Word32
  elementCount : Nat
  inputLength : Nat
  outputLength : Nat
  holdTime : Nat
deriving DecidableEq, Repr

/-- One of the 32 node records (R27). -/
structure NodeRecord where
  state : NodeState
  identity : Identity
  stationName : Option Text
  incarnation : BitVec 8
  failures : Nat
  retryTotal : Nat
  nodeFault : Bool
  held : Bool
  freshExpected : Bool
  cursor : Nat
  packedIn : Nat
  packedOut : Nat
  refuseReason : Option RefuseReason
  lostCause : Option LostCause
  parkOwed : Bool
deriving DecidableEq, Repr

/-! ## Leases -/

/-- The three lease states (ch. 5.2). -/
inductive LeaseState where
  | free
  | held
  | lapsed
deriving DecidableEq, Repr

/-- Why a lease lapsed (R106). -/
inductive LapseCause where
  | expired
  | revoked
deriving DecidableEq, Repr

/-- One of the 64 lease records (R106). -/
structure LeaseRecord where
  state : LeaseState
  serial : Nat
  holder : Option PortId
  term : Nat
  remaining : Nat
  members : List DirSlot
  lostMembers : Nat
  cause : Option LapseCause
deriving DecidableEq, Repr

/-! ## Field links -/

/-- The three link states (R58). -/
inductive LinkState where
  | off
  | running
  | stopping
deriving DecidableEq, Repr

/-- The four bit rates (R57, R59). -/
inductive BitRate where
  | k250
  | k500
  | m1
  | m2
deriving DecidableEq, Repr

/-- The seven settings of a link (R57). `period` is the period in force, in ms; `replyTimeout` is in units of 10 µs. -/
structure Settings where
  bitRate : BitRate
  period : Nat
  replyTimeout : Nat
  retryLimit : Nat
  lossLimit : Nat
  serviceCalls : Nat
  scanSet : BitVec 16
deriving DecidableEq, Repr

/-- The five call kinds (R60). -/
inductive CallKind where
  | probe
  | describe
  | exchange
  | clearHold
  | park
deriving DecidableEq, Repr

/-- The call in flight on a link (R60, R63). `target` is absent for the broadcast PARK. `waiting` is true while an attempt waits
for its answer, and false between a failed attempt and its retry. `answerLength` is the node's input length when the call was
built (R62), and `builtVacant` whether the address's record was VACANT then (R63). -/
structure Call where
  target : Option NodeAddr
  kind : CallKind
  seqBit : Bool
  payload : List Byte
  attemptsLeft : Nat
  waiting : Bool
  answerLength : Nat
  builtVacant : Bool
deriving DecidableEq, Repr

/-- One link engine's record (R57, R58). `cycleTimer` holds the 1 ms ticks left, or is absent while the timer is stopped.
`exchangeList` is what is left of the cycle's exchange list (R71), `late` says that a late expiry has come in this cycle (R76)
and `complete` that the cycle is complete (R73). -/
structure LinkRecord where
  state : LinkState
  settings : Settings
  pendingPeriod : Option Nat
  cycles : Word32
  lateCycles : Nat
  failedCalls : Nat
  droppedService : Nat
  cycleTimer : Option Nat
  call : Option Call
  seqBits : Vector Bool 16
  lostCursor : NodeAddr
  vacantCursor : NodeAddr
  serviceStarted : Nat
  exchangeList : List NodeAddr
  late : Bool
  complete : Bool
deriving DecidableEq, Repr

/-! ## Host ports -/

/-- The frame and per-entry results (ch. 8.5). -/
inductive Result where
  | ok
  | idle
  | badRequest
  | noSession
  | notPermitted
  | deviceFailed
  | staleHandle
  | retired
  | notFound
  | wrongDirection
  | nameInUse
  | badName
  | noNode
  | notOnline
  | range
  | mixedNodes
  | notHeld
  | changed
  | heldElsewhere
  | leaseFull
  | noLease
  | lapsed
  | badLease
  | linkRunning
  | linkOff
  | linkBusy
  | settingConflict
  | badSetting
deriving DecidableEq, Repr

/-- What a grant writes into its slot (R154): the frame result and the result fields. -/
structure Response where
  result : Result
  fields : List Byte
deriving DecidableEq, Repr

/-- An occupied slot of a host port (R144): WAITING while `response` is absent, DONE once it is present. -/
structure PortSlot where
  tag : Byte
  code : Byte
  params : List Byte
  response : Option Response
deriving DecidableEq, Repr

/-- The outgoing frame of a served window (R143): its bytes, whether it is the head slot's response, and the notices its status
byte reported (R145). -/
structure OutFrame where
  frame : List Byte
  isResponse : Bool
  frameErrorShown : Bool
  overrunShown : Bool
deriving DecidableEq, Repr

/-- A window in progress, from the falling edge of CSn to its next rising edge (R141): not served when it began in a reset or in CHECKING, or
was in progress at a reset (R160). -/
inductive Window where
  | unserved
  | served (out : OutFrame)
deriving DecidableEq, Repr

/-- One host port. `slots` holds the occupied slots in acceptance order, the head slot first; the rest of the four are FREE
(R144). -/
structure PortRecord where
  slots : List PortSlot
  window : Option Window
  sessionOpen : Bool
  frameError : Bool
  overrun : Bool
  marksEnabled : Bool
  lapsesEnabled : Bool
  markedCount : Nat
  scanCursor : DirSlot
deriving DecidableEq, Repr

/-! ## The whole part -/

/-- The device states of R160 to R163, and the reset itself: `resetHeld` while the part stays in reset (R160). -/
inductive DeviceState where
  | resetHeld
  | checking
  | ready
  | failed
deriving DecidableEq, Repr

/-- The state of the VB4216. `supsel1` and `supsel0` are the levels of the SUPSEL inputs as the end of the last reset sampled them
(R155), `pending` the queue of commands that wait, first in, first out. -/
structure State where
  device : DeviceState
  supsel1 : Bool
  supsel0 : Bool
  supervisors : PortSet
  points : Vector PointRecord 512
  nameMap : List (Text × DirSlot)
  nodes : Vector NodeRecord 32
  leases : Vector LeaseRecord 64
  link0 : LinkRecord
  link1 : LinkRecord
  port0 : PortRecord
  port1 : PortRecord
  port2 : PortRecord
  grantPointer : PortId
  pending : List Instr
deriving DecidableEq, Repr

/-- The part never stops with a fault: what the spec gives as a failure is a result, a notice, a refused node, a failed attempt
or the state FAILED, each of them a next state. So this type has no constructor. -/
inductive Fault where
deriving DecidableEq, Repr

/-- Why a command has no meaning. -/
inductive Refusal where
  /-- Raised only by an arm of `exec` whose command is not modelled yet. Safe. -/
  | notModelled (mnemonic : String)
deriving DecidableEq, Repr

/-! ## Reset values -/

/-- The empty set of ports. -/
def PortSet.empty : PortSet := ⟨false, false, false⟩

/-- A point record after reset: FREE, generation 0, every other field at its FREE value (R3, R26, R85, R140). -/
def PointRecord.reset : PointRecord :=
  { state := .free, generation := 0, nodeSlot := 0, elementIndex := 0, kind := .pad, direction := .inp, width := 0
    imageOffset := 0, elementName := [], unitText := none, rawLow := 0, rawHigh := 0, descriptorSafe := 0, safeValue := 0
    value := 0, fieldValue := 0, fieldQuality := .none, demand := 0, applied := none, pending := false, inFlight := none
    quality := .none, lease := none, substPort := none, revision := 0, deadband := 0, markRef := 0
    watch := PortSet.empty, mark := PortSet.empty }

/-- The identity fields at their VACANT values (R28). -/
def Identity.vacant : Identity :=
  { typeText := [], unitNumber := 0, layoutSignature := 0, elementCount := 0, inputLength := 0, outputLength := 0
    holdTime := 0 }

/-- A node record after reset: VACANT, incarnation and retry total 0, PARK owed no (R28). -/
def NodeRecord.reset : NodeRecord :=
  { state := .vacant, identity := Identity.vacant, stationName := none, incarnation := 0, failures := 0, retryTotal := 0
    nodeFault := false, held := false, freshExpected := false, cursor := 0, packedIn := 0, packedOut := 0
    refuseReason := none, lostCause := none, parkOwed := false }

/-- A lease record after reset: FREE with serial 0 (R107). -/
def LeaseRecord.reset : LeaseRecord :=
  { state := .free, serial := 0, holder := none, term := 0, remaining := 0, members := [], lostMembers := 0, cause := none }

/-- The reset settings of a link (R57). -/
def Settings.reset : Settings :=
  { bitRate := .m1, period := 10, replyTimeout := 20, retryLimit := 1, lossLimit := 3, serviceCalls := 2
    scanSet := BitVec.allOnes 16 }

/-- A link after reset (R57, R58, R64, R74): OFF, nothing in flight, both cursors at address 1. What the spec gives no reset value
(the count of service calls, the exchange list, `late`, `complete`) is DESIGN CHOICE, log entry 20: safe, since a cycle start
sets all of them before anything reads them. -/
def LinkRecord.reset : LinkRecord :=
  { state := .off, settings := Settings.reset, pendingPeriod := none, cycles := 0, lateCycles := 0, failedCalls := 0
    droppedService := 0, cycleTimer := none, call := none, seqBits := Vector.replicate 16 false, lostCursor := 0
    vacantCursor := 0, serviceStarted := 0, exchangeList := [], late := false, complete := false }

/-- A host port after reset (R160): slots FREE, session CLOSED, notices clear, attention mask enabled, marked count and scan
cursor 0. -/
def PortRecord.reset : PortRecord :=
  { slots := [], window := none, sessionOpen := false, frameError := false, overrun := false, marksEnabled := true
    lapsesEnabled := true, markedCount := 0, scanCursor := 0 }

/-- The part right after a reset has begun: in reset, every block at its reset value (R160), nothing queued. RESET_END then samples
SUPSEL and enters CHECKING, and CHECK_END makes the part READY. The supervisor set (DESIGN CHOICE, log entry 3) and the sampled
SUPSEL levels (DESIGN CHOICE, log entry 4) hold values the spec does not give: unsafe before the RESET_END that sets both. -/
def State.reset : State :=
  { device := .resetHeld, supsel1 := false, supsel0 := false, supervisors := PortSet.empty
    points := Vector.replicate 512 PointRecord.reset, nameMap := [], nodes := Vector.replicate 32 NodeRecord.reset
    leases := Vector.replicate 64 LeaseRecord.reset, link0 := LinkRecord.reset, link1 := LinkRecord.reset
    port0 := PortRecord.reset, port1 := PortRecord.reset, port2 := PortRecord.reset, grantPointer := .h2, pending := [] }

end Sys2Proof.Machine
end

