-- ==== Sys2Proof/Machine/Bytes.lean ====
section
/-! DEFINITION. Byte order and the CRC-8 of every frame (R165, R166), and the bits of an image (R77, R89). -/

namespace Sys2Proof.Machine

/-- A number as two bytes, least significant first (R165). -/
def le16 (n : Nat) : List Byte := [BitVec.ofNat 8 n, BitVec.ofNat 8 (n / 256)]

/-- A 4-byte quantity, least significant byte first (R165). -/
def le32 (v : Word32) : List Byte :=
  [BitVec.ofNat 8 v.toNat, BitVec.ofNat 8 (v.toNat / 256), BitVec.ofNat 8 (v.toNat / 65536),
    BitVec.ofNat 8 (v.toNat / 16777216)]

/-- Two bytes read least significant first (R165). -/
def u16 (a b : Byte) : Nat := a.toNat + 256 * b.toNat

/-- Four bytes read least significant first (R165). -/
def w32 (a b c d : Byte) : Word32 := BitVec.ofNat 32 (a.toNat + 256 * b.toNat + 65536 * c.toNat + 16777216 * d.toNat)

/-- A byte from a number below 256. -/
def byte (n : Nat) : Byte := BitVec.ofNat 8 n

/-- The byte of eight bits, least significant first. -/
def byteOfBits (bits : List Bool) : Byte := byte (bits.foldr (fun b n => b.toNat + 2 * n) 0)

/-- One of two codes. -/
def flagByte (b : Bool) : Byte := if b then 1 else 0

/-- One bit of the CRC register's work: shift left, and subtract the generator polynomial x⁸ + x² + x + 1 when a 1 falls out
(R166). -/
def crcShift (c : Byte) : Byte := if c.msb then (c <<< 1) ^^^ 0x07 else c <<< 1

/-- One byte fed most significant bit first into the CRC register (R166). -/
def crcByte (c b : Byte) : Byte :=
  crcShift (crcShift (crcShift (crcShift (crcShift (crcShift (crcShift (crcShift (c ^^^ b))))))))

/-- The CRC-8 of a run of bytes: initial value 0, no reflection, no final inversion (R166). -/
def crc8 (bytes : List Byte) : Byte := bytes.foldl crcByte 0

/-- An image read as one number: bit offset k of the image is bit k of the number (00_scope.md, "Byte order"). -/
def imageNat : List Byte → Nat
  | [] => 0
  | b :: rest => b.toNat + 256 * imageNat rest

/-- The first `len` bytes of a number, least significant first. -/
def natImage : Nat → Nat → List Byte
  | 0, _ => []
  | len + 1, n => BitVec.ofNat 8 n :: natImage len (n / 256)

/-- The `width` bits of an image that begin at a bit offset (R89). -/
def imageBits (image : List Byte) (offset width : Nat) : Nat := imageNat image / 2 ^ offset % 2 ^ width

/-- A byte of a printable text field, 0x20 to 0x7E (R36). -/
def printable (c : Byte) : Bool := decide (0x20 ≤ c.toNat) && decide (c.toNat ≤ 0x7E)

/-- A legal character of a name: a letter, a digit, '-' or '_' (R21, R31, R49). -/
def legalChar (c : Byte) : Bool :=
  (decide (0x41 ≤ c.toNat) && decide (c.toNat ≤ 0x5A)) || (decide (0x61 ≤ c.toNat) && decide (c.toNat ≤ 0x7A)) ||
    (decide (0x30 ≤ c.toNat) && decide (c.toNat ≤ 0x39)) || c == 0x2D || c == 0x5F

/-- The full stop between a station name and an element name. -/
def fullStop : Byte := 0x2E

/-- A full name: station name, a full stop, element name (R1). -/
def fullName (station element : Text) : Text := station ++ fullStop :: element

end Sys2Proof.Machine
end

