-- ==== Sys2Proof/Machine/Codes.lean ====
section
/-! DEFINITION. The code values of ch. 8.2 and ch. 8.5: states, qualities, kinds, results, requests and call kinds. -/

namespace Sys2Proof.Machine

/-- Point state codes (ch. 8.2). -/
def PointState.code : PointState → Byte
  | .free => 0
  | .reserved => 1
  | .live => 2
  | .orphaned => 3
  | .retired => 4

/-- Kind codes (ch. 8.2). -/
def Kind.code : Kind → Byte
  | .pad => 0
  | .flag => 1
  | .bits => 2
  | .unsigned => 3
  | .signed => 4

/-- The kind a descriptor's kind byte names (R36). -/
def kindOf (b : Byte) : Option Kind :=
  match b.toNat with
  | 0 => some .pad
  | 1 => some .flag
  | 2 => some .bits
  | 3 => some .unsigned
  | 4 => some .signed
  | _ => none

/-- Direction codes (ch. 8.2). -/
def Direction.code : Direction → Byte
  | .inp => 0
  | .out => 1

/-- The direction a byte names (R23, R36). -/
def directionOf (b : Byte) : Option Direction :=
  match b.toNat with
  | 0 => some .inp
  | 1 => some .out
  | _ => none

/-- Quality codes (ch. 8.2). -/
def Quality.code : Quality → Byte
  | .none => 0
  | .good => 1
  | .suspect => 2
  | .stale => 3
  | .substituted => 4
  | .safe => 5
  | .lost => 6

/-- Node state codes (ch. 8.2). -/
def NodeState.code : NodeState → Byte
  | .vacant => 0
  | .describing => 1
  | .online => 2
  | .resync => 3
  | .lost => 4
  | .refused => 5
  | .parked => 6

/-- Refuse reason codes, 0 when absent (ch. 8.2). -/
def refuseCode : Option RefuseReason → Byte
  | none => 0
  | some .descriptor => 1
  | some .layout => 2
  | some .directoryFull => 3
  | some .cycleTooSlow => 4
  | some .badIdentity => 5

/-- Lost cause codes, 0 when absent (ch. 8.2). -/
def lostCauseCode : Option LostCause → Byte
  | none => 0
  | some .failed => 1
  | some .stopped => 2

/-- Lapse cause codes, 0 when absent (ch. 8.2). -/
def lapseCauseCode : Option LapseCause → Byte
  | none => 0
  | some .expired => 1
  | some .revoked => 2

/-- Lease state codes (ch. 8.2). No response reports a FREE lease; its code is 0. -/
def LeaseState.code : LeaseState → Byte
  | .free => 0
  | .held => 1
  | .lapsed => 2

/-- Link state codes (ch. 8.2). -/
def LinkState.code : LinkState → Byte
  | .off => 0
  | .running => 1
  | .stopping => 2

/-- Device state codes (ch. 8.2): READY 1, FAILED 2. No response is sent in the other states; their code is 0. -/
def DeviceState.code : DeviceState → Byte
  | .resetHeld => 0
  | .checking => 0
  | .ready => 1
  | .failed => 2

/-- Bit rate codes (ch. 8.2). -/
def BitRate.code : BitRate → Byte
  | .k250 => 0
  | .k500 => 1
  | .m1 => 2
  | .m2 => 3

/-- The bit rate a code names; 4 to 255 name none (ch. 8.2). -/
def bitRateOf (b : Byte) : Option BitRate :=
  match b.toNat with
  | 0 => some .k250
  | 1 => some .k500
  | 2 => some .m1
  | 3 => some .m2
  | _ => none

/-- The wire number of a port as a byte (ch. 8.2). -/
def portByte (p : PortId) : Byte := byte p.toNat

/-- Call kind codes (ch. 8.6). -/
def CallKind.code : CallKind → Byte
  | .probe => 1
  | .describe => 2
  | .exchange => 3
  | .clearHold => 4
  | .park => 5

/-- Result codes (ch. 8.5). -/
def Result.code : Result → Byte
  | .ok => 0x00
  | .idle => 0x01
  | .badRequest => 0x02
  | .noSession => 0x03
  | .notPermitted => 0x04
  | .deviceFailed => 0x05
  | .staleHandle => 0x10
  | .retired => 0x11
  | .notFound => 0x12
  | .wrongDirection => 0x13
  | .nameInUse => 0x14
  | .badName => 0x15
  | .noNode => 0x16
  | .notOnline => 0x20
  | .range => 0x21
  | .mixedNodes => 0x22
  | .notHeld => 0x23
  | .changed => 0x24
  | .heldElsewhere => 0x30
  | .leaseFull => 0x31
  | .noLease => 0x32
  | .lapsed => 0x33
  | .badLease => 0x34
  | .linkRunning => 0x40
  | .linkOff => 0x41
  | .linkBusy => 0x42
  | .settingConflict => 0x43
  | .badSetting => 0x44

/-! ## Request codes (ch. 8.5) -/

def reqPoll : Byte := 0x01
def reqDeviceInfo : Byte := 0x02
def reqOpenSession : Byte := 0x03
def reqCloseSession : Byte := 0x04
def reqSetAttention : Byte := 0x05
def reqResetDevice : Byte := 0x06
def reqLookup : Byte := 0x10
def reqListPoints : Byte := 0x11
def reqDescribePoint : Byte := 0x12
def reqPointSummary : Byte := 0x13
def reqNodeInfo : Byte := 0x20
def reqListNodes : Byte := 0x21
def reqNameNode : Byte := 0x22
def reqRescanNode : Byte := 0x23
def reqExcludeNode : Byte := 0x24
def reqIncludeNode : Byte := 0x25
def reqForgetNode : Byte := 0x26
def reqStartLink : Byte := 0x30
def reqStopLink : Byte := 0x31
def reqSetLink : Byte := 0x32
def reqLinkStatus : Byte := 0x33
def reqRead : Byte := 0x40
def reqWrite : Byte := 0x41
def reqSetSafe : Byte := 0x42
def reqSubstitute : Byte := 0x43
def reqUnsubstitute : Byte := 0x44
def reqOpenLease : Byte := 0x50
def reqClaim : Byte := 0x51
def reqRelease : Byte := 0x52
def reqRenew : Byte := 0x53
def reqCloseLease : Byte := 0x54
def reqRevoke : Byte := 0x55
def reqLeaseInfo : Byte := 0x56
def reqWatch : Byte := 0x60
def reqUnwatch : Byte := 0x61
def reqSetDeadband : Byte := 0x62
def reqNextChanges : Byte := 0x63
def reqAckChanges : Byte := 0x64

/-- The codes that name a request (ch. 8.5); every other code names none (R153). -/
def requestCodes : List Byte :=
  [reqPoll, reqDeviceInfo, reqOpenSession, reqCloseSession, reqSetAttention, reqResetDevice] ++
    [reqLookup, reqListPoints, reqDescribePoint, reqPointSummary] ++
    [reqNodeInfo, reqListNodes, reqNameNode, reqRescanNode, reqExcludeNode, reqIncludeNode, reqForgetNode] ++
    [reqStartLink, reqStopLink, reqSetLink, reqLinkStatus] ++
    [reqRead, reqWrite, reqSetSafe, reqSubstitute, reqUnsubstitute] ++
    [reqOpenLease, reqClaim, reqRelease, reqRenew, reqCloseLease, reqRevoke, reqLeaseInfo] ++
    [reqWatch, reqUnwatch, reqSetDeadband, reqNextChanges, reqAckChanges]

end Sys2Proof.Machine
end

