-- ==== Sys2Proof/Machine/Tables.lean ====
section
/-! DEFINITION. Tables of a fixed number of records: mapping every record, listing them with their index, finding the lowest
one, and the small operations on sets of ports. -/

namespace Sys2Proof.Machine

/-- Map a list, giving each entry its index, counted from k. -/
def mapFrom {α : Type} (f : Nat → α → α) : Nat → List α → List α
  | _, [] => []
  | k, x :: xs => f k x :: mapFrom f (k + 1) xs

theorem mapFrom_length {α : Type} (f : Nat → α → α) (k : Nat) (l : List α) : (mapFrom f k l).length = l.length := by
  induction l generalizing k with
  | nil => rfl
  | cons x xs ih => simp [mapFrom, ih]

/-- Map every record of a table, giving each its index. -/
def tabMap {α : Type} {n : Nat} (f : Fin n → α → α) (v : Vector α n) : Vector α n :=
  ⟨(mapFrom (fun k x => if h : k < n then f ⟨k, h⟩ x else x) 0 v.toList).toArray, by simp [mapFrom_length]⟩

/-- The indices of a table, in ascending order. -/
def indices (n : Nat) : List (Fin n) :=
  (List.range n).filterMap fun k => if h : k < n then some ⟨k, h⟩ else none

/-- The records of a table with their indices, in ascending order. -/
def entries {α : Type} {n : Nat} (v : Vector α n) : List (Fin n × α) := (indices n).zip v.toList

/-- The lowest index whose record meets the test. -/
def lowest {α : Type} {n : Nat} (test : α → Bool) (v : Vector α n) : Option (Fin n) :=
  ((entries v).find? fun e => test e.2).map Prod.fst

/-- A port is in the set. -/
def PortSet.has (a : PortSet) : PortId → Bool
  | .h0 => a.h0
  | .h1 => a.h1
  | .h2 => a.h2

/-- The set with a port added. -/
def PortSet.add (a : PortSet) : PortId → PortSet
  | .h0 => { a with h0 := true }
  | .h1 => { a with h1 := true }
  | .h2 => { a with h2 := true }

/-- The set with a port removed. -/
def PortSet.drop (a : PortSet) : PortId → PortSet
  | .h0 => { a with h0 := false }
  | .h1 => { a with h1 := false }
  | .h2 => { a with h2 := false }

/-- The ports of either set. -/
def PortSet.union (a b : PortSet) : PortSet := ⟨a.h0 || b.h0, a.h1 || b.h1, a.h2 || b.h2⟩

/-- The set holds no port. -/
def PortSet.isEmpty (a : PortSet) : Bool := !(a.h0 || a.h1 || a.h2)

/-- Bit n is set for each port Hn of the set (the supervisor set of DEVICE_INFO, ch. 8.4). -/
def PortSet.toByte (a : PortSet) : Byte :=
  BitVec.ofNat 8 ((if a.h0 then 1 else 0) + (if a.h1 then 2 else 0) + (if a.h2 then 4 else 0))

end Sys2Proof.Machine
end

