-- ==== Sys2Proof/Machine/Ops.lean ====
section
/-! DEFINITION. The named operations every command is made of: reading and updating the records of State, reportable changes and
marks, the record steps of the point directory, retirement, release and lapse, the loss of a node. -/

namespace Sys2Proof.Machine

/-! ## Reading and updating State -/

/-- The record of a host port. -/
def State.port (s : State) : PortId → PortRecord
  | .h0 => s.port0
  | .h1 => s.port1
  | .h2 => s.port2

/-- The record of a link engine. -/
def State.link (s : State) : LinkId → LinkRecord
  | .l0 => s.link0
  | .l1 => s.link1

/-- The record in a directory slot. -/
def State.point (s : State) (i : DirSlot) : PointRecord := s.points[i]

/-- The record in a node slot. -/
def State.node (s : State) (n : NodeSlot) : NodeRecord := s.nodes[n]

/-- The record at a lease index. -/
def State.leaseAt (s : State) (k : LeaseIndex) : LeaseRecord := s.leases[k]

/-- Replace a port's record. -/
def State.setPort (s : State) (p : PortId) (r : PortRecord) : State :=
  match p with
  | .h0 => { s with port0 := r }
  | .h1 => { s with port1 := r }
  | .h2 => { s with port2 := r }

/-- Replace a link's record. -/
def State.setLink (s : State) (l : LinkId) (r : LinkRecord) : State :=
  match l with
  | .l0 => { s with link0 := r }
  | .l1 => { s with link1 := r }

/-- Replace a node record. -/
def State.setNode (s : State) (n : NodeSlot) (r : NodeRecord) : State := { s with nodes := s.nodes.set n r }

/-- Replace a lease record. -/
def State.setLease (s : State) (k : LeaseIndex) (r : LeaseRecord) : State := { s with leases := s.leases.set k r }

/-- Map every lease record. -/
def State.mapLeases (s : State) (f : LeaseIndex → LeaseRecord → LeaseRecord) : State :=
  { s with leases := tabMap f s.leases }

/-- Map every node record. -/
def State.mapNodes (s : State) (f : NodeSlot → NodeRecord → NodeRecord) : State := { s with nodes := tabMap f s.nodes }

/-- Replace the name map. -/
def State.setNameMap (s : State) (m : List (Text × DirSlot)) : State := { s with nameMap := m }

/-- Replace the grant pointer. -/
def State.setGrantPointer (s : State) (p : PortId) : State := { s with grantPointer := p }

/-- Replace the queue of waiting commands. -/
def State.setPending (s : State) (q : List Instr) : State := { s with pending := q }

/-- The node slot of an address: link × 16 + address − 1. -/
def nodeSlotOf (l : LinkId) (a : NodeAddr) : NodeSlot :=
  match l with
  | .l0 => ⟨a.val, by omega⟩
  | .l1 => ⟨16 + a.val, by omega⟩

/-- The link of a node slot. -/
def linkOfSlot (n : NodeSlot) : LinkId := if n.val < 16 then .l0 else .l1

/-- The node record of an address. -/
def State.nodeAt (s : State) (l : LinkId) (a : NodeAddr) : NodeRecord := s.node (nodeSlotOf l a)

/-- A link number, 0 or 1 (ch. 3.7). -/
def linkOf (n : Nat) : Option LinkId :=
  match n with
  | 0 => some .l0
  | 1 => some .l1
  | _ => none

/-- Count up to a value and stop there. -/
def satAdd (limit n k : Nat) : Nat := min limit (n + k)

/-! ## Marks and marked counts (R128, R129, R130) -/

/-- How many records have a mark for the port after an update that they did not have before. -/
def marksSet (p : PortId) (before after : List PointRecord) : Nat :=
  (before.zip after).countP fun e => !e.1.mark.has p && e.2.mark.has p

/-- How many records lost a mark for the port in an update. -/
def marksRemoved (p : PortId) (before after : List PointRecord) : Nat :=
  (before.zip after).countP fun e => e.1.mark.has p && !e.2.mark.has p

/-- The port's marked count rises by 1 at each mark set for it and falls by 1 at each mark removed from it (R129). -/
def PortRecord.recount (r : PortRecord) (p : PortId) (before after : List PointRecord) : PortRecord :=
  { r with markedCount := r.markedCount + marksSet p before after - marksRemoved p before after }

/-- The one way a point record changes: every record is mapped, and the ports' marked counts follow their marks. -/
def State.updatePoints (s : State) (g : DirSlot → PointRecord → PointRecord) : State :=
  let after := tabMap g s.points
  { s with
    points := after
    port0 := s.port0.recount .h0 s.points.toList after.toList
    port1 := s.port1.recount .h1 s.points.toList after.toList
    port2 := s.port2.recount .h2 s.points.toList after.toList }

/-! ## Reportable changes (ch. 6.1) -/

/-- The distance of two values as the kind reads them, an exact integer (R127). -/
def valueDistance (k : Kind) (a b : Word32) : Nat :=
  match k with
  | .signed => (a.toInt - b.toInt).natAbs
  | _ => ((a.toNat : Int) - (b.toNat : Int)).natAbs

/-- The deadband test of R127 on an IN record whose value has changed. -/
def deadbandPasses (r : PointRecord) : Bool :=
  r.kind == .flag || r.kind == .bits || r.deadband == 0 || decide (r.deadband ≤ valueDistance r.kind r.value r.markRef)

/-- The candidate changes one event has made to one record form a reportable change (R126, R127). -/
def reportable (before after : PointRecord) : Bool :=
  after.quality != before.quality || after.state != before.state ||
    match after.direction with
    | .out => after.lease != before.lease || after.demand != before.demand || after.applied != before.applied
    | .inp =>
      (after.value != before.value && (deadbandPasses after || after.substPort.isSome)) ||
        after.substPort != before.substPort

/-- What a reportable change does to the record: revision, mark reference and marks (R128). Retirement leaves the mark reference
unchanged (R15). The value of an IN point changed at the event when it differs at its end from its start (R126). R102 and R104 count setting
or ending a substitute as a change of value: that such an event makes a reportable change (R127), but leaves the mark reference where the
value stays equal, is the model's DESIGN CHOICE (log entry 26). -/
def noteChange (before after : PointRecord) : PointRecord :=
  { after with
    revision := after.revision + 1
    markRef :=
      if after.direction = .inp ∧ after.value ≠ before.value ∧ after.state ≠ .retired then after.value else after.markRef
    mark := after.mark.union after.watch }

/-- A record at the end of an event that changed it from `before` to `after`: at most one reportable change (R126). -/
def report (before after : PointRecord) : PointRecord := if reportable before after then noteChange before after else after

/-- One event: each record is changed as `f` says, and its changes are taken together (R87, R126). -/
def State.event (s : State) (f : DirSlot → PointRecord → PointRecord) : State :=
  s.updatePoints fun i r => report r (f i r)

/-! ## Record steps of the directory -/

/-- A record that enters FREE takes the FREE values and keeps its generation (R3). -/
def PointRecord.freed (r : PointRecord) : PointRecord := { PointRecord.reset with generation := r.generation }

/-- The next generation: 127 wraps to 1 (R4). -/
def nextGeneration (g : Nat) : Nat := if 127 ≤ g then 1 else g + 1

/-- The handle of a record: slot + 512 × generation (R4). -/
def handleOf (i : DirSlot) (r : PointRecord) : Nat := i.val + 512 * r.generation

/-- A record is LIVE or ORPHANED. -/
def PointRecord.published (r : PointRecord) : Bool := r.state == .live || r.state == .orphaned

/-- Pending is yes when applied is absent or differs from demand (R86). -/
def PointRecord.recompute (r : PointRecord) : PointRecord := { r with pending := r.applied != some r.demand }

/-- Demand becomes a value and pending is recomputed (R86, R99). -/
def PointRecord.setDemand (r : PointRecord) (v : Word32) : PointRecord := { r with demand := v }.recompute

/-- Applied becomes a value or absent and pending is recomputed (R86). -/
def PointRecord.setApplied (r : PointRecord) (v : Option Word32) : PointRecord := { r with applied := v }.recompute

/-- The release step of one member, on its point record (R117). -/
def PointRecord.release (r : PointRecord) : PointRecord := { r with lease := none }.setDemand r.safeValue

/-- The end of a substitution (R104, R105): value and quality become the field's. -/
def PointRecord.endSubstitution (r : PointRecord) : PointRecord :=
  { r with value := r.fieldValue, quality := r.fieldQuality, substPort := none }

/-- A port leaves a record's watch set and mark set (R132, R139); a RETIRED record whose last mark is removed passes to FREE
(R17, R18). -/
def PointRecord.dropWatcher (r : PointRecord) (p : PortId) : PointRecord :=
  let r' := { r with watch := r.watch.drop p, mark := r.mark.drop p }
  if r.state = .retired ∧ r.mark.has p ∧ r'.mark.isEmpty then r'.freed else r'

/-! ## Retirement, reservation, publication -/

/-- A record that is being retired: out of its lease, its substitution ended, its in-flight value absent (R15). The field quality of a
substituted point becomes LOST with its quality (R85; log entry 19). -/
def PointRecord.withdrawn (r : PointRecord) : PointRecord :=
  if r.substPort.isSome then
    { r with
      state := .retired, lease := none, inFlight := none, substPort := none, value := r.fieldValue, quality := .lost
      fieldQuality := .lost }
  else { r with state := .retired, lease := none, inFlight := none }

/-- Retirement of one LIVE or ORPHANED record (R15): one reportable change covers everything in it, and a record nobody watches
passes to FREE. -/
def PointRecord.retire (r : PointRecord) : PointRecord :=
  if r.watch.isEmpty then r.freed else noteChange r r.withdrawn

/-- A record is a LIVE or ORPHANED point of the node. -/
def PointRecord.publishedOf (r : PointRecord) (n : NodeSlot) : Bool := r.published && r.nodeSlot == n

/-- A lease at the retirement of its members that meet the test: they leave the list, the others keep their order, and the
lost-member count rises by one for each and stops at 255 (R123). -/
def LeaseRecord.loseMembers (r : LeaseRecord) (gone : DirSlot → Bool) : LeaseRecord :=
  { r with members := r.members.filter fun i => !gone i, lostMembers := satAdd 255 r.lostMembers (r.members.countP gone) }

/-- Retirement of every LIVE or ORPHANED record of a node, at one event (R15, R16, R123). -/
def State.retireNode (s : State) (n : NodeSlot) : State :=
  ((s.mapLeases fun _ r => r.loseMembers fun i => (s.point i).publishedOf n).setNameMap
    (s.nameMap.filter fun e => !(s.point e.2).publishedOf n)).updatePoints
      fun _ r => if r.publishedOf n then r.retire else r

/-- The RESERVED records of a node pass to FREE (R12). -/
def State.releaseReservations (s : State) (n : NodeSlot) : State :=
  s.updatePoints fun _ r => if r.state = .reserved ∧ r.nodeSlot = n then r.freed else r

/-- The station name a full name begins with. -/
def NodeRecord.stationText (r : NodeRecord) : Text := r.stationName.getD []

/-- Publication: every RESERVED record of the node passes to LIVE, and the name map gains its full name (R13, R19). -/
def State.publish (s : State) (n : NodeSlot) : State :=
  let mine := (entries s.points).filter fun e => e.2.state == .reserved && e.2.nodeSlot == n
  (s.setNameMap (s.nameMap ++ mine.map fun e => (fullName (s.node n).stationText e.2.elementName, e.1))).updatePoints
    fun _ r => if r.state = .reserved ∧ r.nodeSlot = n then { r with state := .live } else r

/-- The name map rekeyed for a node that takes a new station name (R20). -/
def State.rekey (s : State) (n : NodeSlot) (station : Text) : State :=
  s.setNameMap (s.nameMap.map fun e =>
    if (s.point e.2).publishedOf n then (fullName station (s.point e.2).elementName, e.2) else e)

/-! ## Loss and return of a node -/

/-- A record at the loss of its node (R14, R95). -/
def PointRecord.lose (r : PointRecord) : PointRecord :=
  match r.direction with
  | .out => { r with state := .orphaned, quality := .lost }
  | .inp =>
    if r.substPort.isSome then { r with state := .orphaned, fieldQuality := .lost }
    else { r with state := .orphaned, fieldQuality := .lost, quality := .lost }

/-- A record after a failed EXCHANGE or CLEAR_HOLD of its node (R94). -/
def PointRecord.exchangeFailed (r : PointRecord) : PointRecord :=
  match r.direction with
  | .out => { r with inFlight := none }
  | .inp =>
    if r.fieldQuality = .good ∨ r.fieldQuality = .suspect then
      if r.substPort.isSome then { r with fieldQuality := .stale } else { r with fieldQuality := .stale, quality := .stale }
    else r

/-- A record is a LIVE point of the node. -/
def PointRecord.liveOf (r : PointRecord) (n : NodeSlot) : Bool := r.state == .live && r.nodeSlot == n

/-- A node's record on entry to LOST (R46). -/
def NodeRecord.lose (r : NodeRecord) (cause : LostCause) : NodeRecord :=
  { r with state := .lost, lostCause := some cause, failures := 0 }

/-- Some nodes pass from ONLINE or RESYNC to LOST at one event (R14, R46, R95). -/
def State.loseNodes (s : State) (sel : NodeSlot → Bool) (cause : LostCause) : State :=
  (s.mapNodes fun n r => if sel n then r.lose cause else r).event
    fun _ r => if r.state == .live && sel r.nodeSlot then r.lose else r

/-- A node record that enters VACANT in operation keeps its incarnation, retry total and PARK owed (R28). -/
def NodeRecord.vacated (r : NodeRecord) : NodeRecord :=
  { NodeRecord.reset with incarnation := r.incarnation, retryTotal := r.retryTotal, parkOwed := r.parkOwed }

/-- A name is the station name of another record that is not VACANT (R33, R49). -/
def State.nameTaken (s : State) (n : NodeSlot) (name : Text) : Bool :=
  (entries s.nodes).any fun e => e.1 != n && e.2.state != .vacant && e.2.stationName == some name

/-! ## Leases -/

/-- A lease record that enters FREE keeps its serial (R107). -/
def LeaseRecord.freed (r : LeaseRecord) : LeaseRecord := { LeaseRecord.reset with serial := r.serial }

/-- The next serial: 255 wraps to 1 (R106). -/
def nextSerial (n : Nat) : Nat := if 255 ≤ n then 1 else n + 1

/-- A lease record that lapses (R120). -/
def LeaseRecord.lapse (r : LeaseRecord) (cause : LapseCause) : LeaseRecord :=
  { r with state := .lapsed, members := [], cause := some cause, remaining := 0 }

/-- The release step for every point of a list of members (R117), as one event. -/
def State.releaseMembers (s : State) (members : List DirSlot) : State :=
  s.event fun i r => if members.contains i then r.release else r

/-- A HELD lease lapses (R120): each member is released, then the record is LAPSED. -/
def State.lapse (s : State) (k : LeaseIndex) (cause : LapseCause) : State :=
  (s.releaseMembers (s.leaseAt k).members).setLease k ((s.leaseAt k).lapse cause)

/-- A port's LAPSE condition: it holds at least one LAPSED lease (R122). -/
def State.lapseCondition (s : State) (p : PortId) : Bool :=
  s.leases.toList.any fun r => r.state == .lapsed && r.holder == some p

/-! ## Legal values -/

/-- A value is within range for a kind, width and range (R88). -/
def valueInRange (k : Kind) (width : Nat) (low high v : Word32) : Bool :=
  match k with
  | .flag => decide (v.toNat ≤ 1)
  | .bits => decide (v.toNat ≤ 2 ^ width - 1)
  | .unsigned => decide (low.toNat ≤ v.toNat) && decide (v.toNat ≤ high.toNat)
  | .signed => decide (low.toInt ≤ v.toInt) && decide (v.toInt ≤ high.toInt)
  | .pad => false

/-- A value is within range for the point (R88). -/
def PointRecord.inRange (r : PointRecord) (v : Word32) : Bool := valueInRange r.kind r.width r.rawLow r.rawHigh v

end Sys2Proof.Machine
end

