-- ==== Sys2Proof/Machine/Flags.lean ====
section
/-! DEFINITION. The port status byte (R148), the attention line (R149), and the frames a port sends (R143, ch. 8.3). -/

namespace Sys2Proof.Machine

/-- The port is a supervisor (R155). -/
def State.isSupervisor (s : State) (p : PortId) : Bool := s.supervisors.has p

/-- The supervisor ports that the SUPSEL levels choose (R155). -/
def supervisorsOf (supsel1 supsel0 : Bool) : PortSet :=
  match supsel1, supsel0 with
  | false, false => ⟨true, false, false⟩
  | false, true => ⟨false, true, false⟩
  | true, false => ⟨false, false, true⟩
  | true, true => ⟨true, true, true⟩

/-- The part serves windows and grants requests: it is READY or FAILED (R141, R161 to R163). -/
def State.serving (s : State) : Bool := s.device == .ready || s.device == .failed

/-- A slot is DONE (R144). -/
def PortSlot.done (e : PortSlot) : Bool := e.response.isSome

/-- The bits of the port status byte, from bit 0: MORE, MARKS, LAPSE, FRAME_ERROR, OVERRUN, SESSION, FAILED, 0 (ch. 8.3). -/
def statusBits (more marks lapse frameError overrun session failed : Bool) : Byte :=
  byte ((if more then 1 else 0) + (if marks then 2 else 0) + (if lapse then 4 else 0) + (if frameError then 8 else 0) +
    (if overrun then 16 else 0) + (if session then 32 else 0) + (if failed then 64 else 0))

/-- The port status byte from the port's state (R148). `more` is the MORE condition of the outgoing frame. -/
def State.statusByte (s : State) (p : PortId) (more : Bool) : Byte :=
  let r := s.port p
  statusBits more (decide (0 < r.markedCount)) (s.lapseCondition p) r.frameError r.overrun r.sessionOpen
    (s.device == .failed)

/-- The port's ATTNn line is low (R149): never in reset or in CHECKING. -/
def State.attnLow (s : State) (p : PortId) : Bool :=
  let r := s.port p
  s.serving &&
    (r.slots.any PortSlot.done || (decide (0 < r.markedCount) && r.marksEnabled) ||
      (s.lapseCondition p && r.lapsesEnabled) || r.frameError || r.overrun)

/-- A frame of the part: length, tag, result code, status byte, result fields, CRC (ch. 8.3). -/
def partFrame (tag : Byte) (result : Result) (status : Byte) (fields : List Byte) : List Byte :=
  let body := byte (5 + fields.length) :: tag :: result.code :: status :: fields
  body ++ [crc8 body]

/-- The outgoing frame of a window that opens now (R143, R148): the head slot's response if it is DONE, and an IDLE frame
otherwise. -/
def State.outFrame (s : State) (p : PortId) : OutFrame :=
  let r := s.port p
  match r.slots with
  | { tag := tag, response := some resp, .. } :: behind =>
    { frame := partFrame tag resp.result (s.statusByte p (behind.any PortSlot.done)) resp.fields, isResponse := true
      frameErrorShown := r.frameError, overrunShown := r.overrun }
  | _ =>
    { frame := partFrame 0 .idle (s.statusByte p false) [], isResponse := false
      frameErrorShown := r.frameError, overrunShown := r.overrun }

end Sys2Proof.Machine
end

