-- ==== Sys2Proof/Machine/Operands.lean ====
section
/-! DEFINITION. Reading the operands of requests: the parameter layouts of ch. 8.4 (the form check of R153), and the shared checks
of point handles (R5), lease handles (R108), and names (R21). -/

namespace Sys2Proof.Machine

/-! ## Parameter layouts (ch. 8.4). `none` is a form that does not match (R153). -/

/-- No parameter bytes. -/
def formNone : List Byte → Option Unit
  | [] => some ()
  | _ => none

/-- One byte: a node slot, a link number. -/
def formByte : List Byte → Option Nat
  | [a] => some a.toNat
  | _ => none

/-- Two bytes of one byte each (SET_ATTENTION). -/
def formTwoBytes : List Byte → Option (Nat × Nat)
  | [a, b] => some (a.toNat, b.toNat)
  | _ => none

/-- A 2-byte quantity: a point handle, a term. -/
def formWord : List Byte → Option Nat
  | [a, b] => some (u16 a b)
  | _ => none

/-- A lease handle: index, then serial. -/
def formLease : List Byte → Option (Nat × Nat)
  | [i, n] => some (i.toNat, n.toNat)
  | _ => none

/-- A lease handle and one byte (LEASE_INFO). -/
def formLeaseByte : List Byte → Option ((Nat × Nat) × Nat)
  | [i, n, a] => some ((i.toNat, n.toNat), a.toNat)
  | _ => none

/-- A point handle and a 4-byte value (SUBSTITUTE). -/
def formHandleValue : List Byte → Option (Nat × Word32)
  | [a, b, c, d, e, f] => some (u16 a b, w32 c d e f)
  | _ => none

/-- A lease handle, a point handle and a 4-byte value (SET_SAFE). -/
def formLeaseHandleValue : List Byte → Option ((Nat × Nat) × Nat × Word32)
  | [i, n, a, b, c, d, e, f] => some ((i.toNat, n.toNat), u16 a b, w32 c d e f)
  | _ => none

/-- A point handle and a 2-byte number (SET_DEADBAND). -/
def formHandleWord : List Byte → Option (Nat × Nat)
  | [a, b, c, d] => some (u16 a b, u16 c d)
  | _ => none

/-- A start slot and two filter bytes (LIST_POINTS). -/
def formList : List Byte → Option (Nat × Byte × Byte)
  | [a, b, n, d] => some (u16 a b, n, d)
  | _ => none

/-- A name length and that many name bytes (LOOKUP; R168). -/
def formName : List Byte → Option Text
  | n :: name => if name.length = n.toNat then some name else none
  | [] => none

/-- A byte, then a name length and that many name bytes (NAME_NODE). -/
def formByteName : List Byte → Option (Nat × Text)
  | a :: rest => (formName rest).map fun name => (a.toNat, name)
  | [] => none

/-- Handles of 2 bytes each, to the end of the bytes. -/
def handlesIn : List Byte → List Nat
  | a :: b :: rest => u16 a b :: handlesIn rest
  | _ => []

/-- Pairs of a handle and a 2-byte revision, to the end of the bytes (ACK_CHANGES). -/
def revisionsIn : List Byte → List (Nat × BitVec 16)
  | a :: b :: c :: d :: rest => (u16 a b, BitVec.ofNat 16 (u16 c d)) :: revisionsIn rest
  | _ => []

/-- Pairs of a handle and a 4-byte value, to the end of the bytes (WRITE). -/
def valuesIn : List Byte → List (Nat × Word32)
  | a :: b :: c :: d :: e :: f :: rest => (u16 a b, w32 c d e f) :: valuesIn rest
  | _ => []

/-- A count byte, then count entries of `size` bytes each: the entry bytes (R168). -/
def formCount (size : Nat) : List Byte → Option (List Byte)
  | n :: rest => if rest.length = n.toNat * size then some rest else none
  | [] => none

/-- A count and that many handles (READ, WATCH, UNWATCH). -/
def formHandles (b : List Byte) : Option (List Nat) := (formCount 2 b).map handlesIn

/-- A count and that many pairs of handle and revision (ACK_CHANGES). -/
def formRevisions (b : List Byte) : Option (List (Nat × BitVec 16)) := (formCount 4 b).map revisionsIn

/-- A lease handle, a count and that many handles (CLAIM, RELEASE). -/
def formLeaseHandles : List Byte → Option ((Nat × Nat) × List Nat)
  | i :: n :: rest => (formHandles rest).map fun hs => ((i.toNat, n.toNat), hs)
  | _ => none

/-- A lease handle, a count and that many pairs of handle and value (WRITE). -/
def formWrite : List Byte → Option ((Nat × Nat) × List (Nat × Word32))
  | i :: n :: rest => (formCount 6 rest).map fun vs => ((i.toNat, n.toNat), valuesIn vs)
  | _ => none

/-- The settings record of SET_LINK as its bytes stand, before any range check (ch. 8.2). -/
def formSettings : List Byte → Option (Nat × Byte × Nat × Nat × Nat × Nat × Nat × BitVec 16)
  | [l, rate, period, reply, retry, loss, service, a, b] =>
    some (l.toNat, rate, period.toNat, reply.toNat, retry.toNat, loss.toNat, service.toNat, BitVec.ofNat 16 (u16 a b))
  | _ => none

/-- A number of entries is within a request's limits. -/
def countIn (limit n : Nat) : Bool := decide (1 ≤ n) && decide (n ≤ limit)

/-! ## Point handles (R5) -/

/-- The directory slot in the low 9 bits of a handle (R4). -/
def handleSlot (h : Nat) : DirSlot := ⟨h % 512, by omega⟩

/-- The generation in the high 7 bits of a handle (R4). -/
def handleGeneration (h : Nat) : Nat := h / 512

/-- The outcome of the handle check of R5. -/
inductive HandleCheck where
  | accepted (slot : DirSlot)
  | refused (result : Result)
deriving DecidableEq, Repr

/-- The handle check of R5. `acceptRetired` is true for ACK_CHANGES and UNWATCH only. -/
def State.checkHandle (s : State) (acceptRetired : Bool) (h : Nat) : HandleCheck :=
  let r := s.point (handleSlot h)
  match r.state with
  | .free | .reserved => .refused .staleHandle
  | .live | .orphaned => if r.generation = handleGeneration h then .accepted (handleSlot h) else .refused .staleHandle
  | .retired =>
    if r.generation = handleGeneration h then
      if acceptRetired then .accepted (handleSlot h) else .refused .retired
    else .refused .staleHandle

/-- The outcome of a check over a whole list of handles, in their order. -/
inductive HandlesCheck where
  | accepted (slots : List DirSlot)
  | refused (result : Result)
deriving DecidableEq, Repr

/-- The handles of an all-or-nothing request: the first refused one answers the request (R5, R98, R112). -/
def State.checkHandles (s : State) : List Nat → HandlesCheck
  | [] => .accepted []
  | h :: rest =>
    match s.checkHandle false h with
    | .refused e => .refused e
    | .accepted i =>
      match s.checkHandles rest with
      | .refused e => .refused e
      | .accepted is => .accepted (i :: is)

/-! ## Lease handles (R108) -/

/-- The lease a handle names: index below 64, record not FREE, serial equal (R108). -/
def State.leaseNamed (s : State) (h : Nat × Nat) : Option LeaseIndex :=
  if hi : h.1 < 64 then
    let r := s.leaseAt ⟨h.1, hi⟩
    if r.state ≠ .free ∧ r.serial = h.2 then some ⟨h.1, hi⟩ else none
  else none

/-- The lease a handle names, when the requesting port is its holder (R108). -/
def State.leaseHeldBy (s : State) (p : PortId) (h : Nat × Nat) : Option LeaseIndex :=
  match s.leaseNamed h with
  | some k => if (s.leaseAt k).holder = some p then some k else none
  | none => none

/-! ## Names (R21) -/

/-- A full name is split at its first full stop. -/
def splitName : Text → Option (Text × Text)
  | [] => none
  | c :: rest =>
    if c = fullStop then some ([], rest)
    else (splitName rest).map fun e => (c :: e.1, e.2)

/-- The check of a full name (R21). -/
def fullNameLegal (name : Text) : Bool :=
  match splitName name with
  | some (station, element) =>
    countIn 8 station.length && countIn 12 element.length && station.all legalChar && element.all legalChar
  | none => false

/-- The check of a station name given by a host (R49). -/
def stationNameLegal (name : Text) : Bool := countIn 8 name.length && name.all legalChar

end Sys2Proof.Machine
end

