-- ==== Sys2Proof/Machine/Grant.lean ====
section
/-! DEFINITION. The request engine (ch. 7.5): the choice of the next request, the common checks, and the writing of the response;
and the two grants that are answered BAD_REQUEST. -/

namespace Sys2Proof.Machine

/-- The order in which ports are looked at after the one granted last (R152). -/
def grantOrder : PortId → List PortId
  | .h0 => [.h1, .h2, .h0]
  | .h1 => [.h2, .h0, .h1]
  | .h2 => [.h0, .h1, .h2]

/-- A slot is WAITING (R144). -/
def PortSlot.waiting (e : PortSlot) : Bool := e.response.isNone

/-- The earliest WAITING slot of a port (R152). -/
def PortRecord.firstWaiting (r : PortRecord) : Option PortSlot := r.slots.find? PortSlot.waiting

/-- The first of some ports that has a WAITING slot, with that slot. -/
def State.firstRequest (s : State) : List PortId → Option (PortId × PortSlot)
  | [] => none
  | p :: rest =>
    match (s.port p).firstWaiting with
    | some e => some (p, e)
    | none => s.firstRequest rest

/-- The request that the engine grants next: the port after the grant pointer, and its earliest WAITING slot (R152). No request is
granted in reset or in CHECKING (R160, R161). -/
def State.nextRequest (s : State) : Option (PortId × PortSlot) :=
  if s.serving then s.firstRequest (grantOrder s.grantPointer) else none

/-- The response written into the earliest WAITING slot, which becomes DONE (R152). -/
def answerSlots (resp : Response) : List PortSlot → List PortSlot
  | [] => []
  | e :: rest => if e.waiting then { e with response := some resp } :: rest else e :: answerSlots resp rest

/-- The end of a grant: the response stands in its slot, and the grant pointer names the port (R152, R154). -/
def State.finishGrant (s : State) (p : PortId) (resp : Response) : State :=
  (s.setPort p { s.port p with slots := answerSlots resp (s.port p).slots }).setGrantPointer p

/-- A response with no result fields (R154). -/
def answer (r : Result) : Response := ⟨r, []⟩

/-- A response OK with result fields (R154). -/
def answerOk (fields : List Byte) : Response := ⟨.ok, fields⟩

/-- Which of the common checks a request passes (R153): it is answered in FAILED, it needs an open session, it is supervisor
only. -/
structure Policy where
  inFailed : Bool
  session : Bool
  supervisor : Bool
deriving DecidableEq, Repr

/-- A request any port with an open session may issue. -/
def anyPort : Policy := ⟨false, true, false⟩

/-- A supervisor-only request. -/
def supervisorOnly : Policy := ⟨false, true, true⟩

/-- The common checks of R153, in their order, and then the request's own rule. -/
def State.answered {α : Type} (s : State) (pol : Policy) (form : List Byte → Option α)
    (act : PortId → α → State → State × Response) (p : PortId) (params : List Byte) : State × Response :=
  if s.device = .failed ∧ pol.inFailed = false then (s, answer .deviceFailed)
  else
    match form params with
    | none => (s, answer .badRequest)
    | some a =>
      if pol.session ∧ (s.port p).sessionOpen = false then (s, answer .noSession)
      else if pol.supervisor ∧ s.isSupervisor p = false then (s, answer .notPermitted)
      else act p a s

/-- The grant of a request (R152): the step occurs when the request engine's next request has a code of the step's own. In any
other state the step cannot occur, and nothing changes (log entry 1). -/
def State.grantOf {α : Type} (s : State) (mine : Byte → Bool) (pol : Policy) (form : List Byte → Option α)
    (act : PortId → α → State → State × Response) : State :=
  match s.nextRequest with
  | none => s
  | some (p, e) =>
    if mine e.code then
      let out := s.answered pol form act p e.params
      out.1.finishGrant p out.2
    else s

/-- The grant of a request with one request code. -/
def State.grant {α : Type} (s : State) (code : Byte) (pol : Policy) (form : List Byte → Option α)
    (act : PortId → α → State → State × Response) : State :=
  s.grantOf (fun c => c == code) pol form act

/-- The rule of a request that leaves the state as it is. -/
def reading {α : Type} (f : PortId → α → State → Response) (p : PortId) (a : α) (s : State) : State × Response :=
  (s, f p a s)

/-- The form check that no parameters pass. -/
def formNever (_ : List Byte) : Option Unit := none

/-- POLL_REQUEST (R142, R153, R163): a POLL that reached a slot is answered BAD_REQUEST, in READY and in FAILED. -/
def execPollRequest (s : State) : Host.Outcome State Fault Refusal :=
  .next (s.grant reqPoll ⟨true, false, false⟩ formNever (reading fun _ _ _ => answer .badRequest))

/-- UNKNOWN_REQUEST (R153): a code that names no request is answered BAD_REQUEST, and DEVICE_FAILED in FAILED. -/
def execUnknownRequest (s : State) : Host.Outcome State Fault Refusal :=
  .next (s.grantOf (fun c => !requestCodes.contains c) ⟨false, false, false⟩ formNever
    (reading fun _ _ _ => answer .badRequest))

end Sys2Proof.Machine
end

