-- ==== Sys2Proof/Machine/Directory.lean ====
section
/-! DEFINITION. The directory requests (ch. 1.8): LOOKUP, LIST_POINTS, DESCRIBE_POINT, POINT_SUMMARY. -/

namespace Sys2Proof.Machine

/-- The directory slot the name map gives a full name (R19). -/
def State.findName (s : State) (name : Text) : Option DirSlot :=
  (s.nameMap.find? fun e => e.1 == name).map Prod.snd

/-- The result fields of LOOKUP (ch. 8.4). -/
def lookupFields (i : DirSlot) (r : PointRecord) : List Byte :=
  le16 (handleOf i r) ++ [r.direction.code, r.kind.code, r.state.code]

/-- The rule of LOOKUP (R21, R22). -/
def lookupAnswer (_ : PortId) (name : Text) (s : State) : Response :=
  if fullNameLegal name then
    match s.findName name with
    | some i => answerOk (lookupFields i (s.point i))
    | none => answer .notFound
  else answer .badName

/-- LOOKUP (R22). -/
def execLookup (s : State) : Host.Outcome State Fault Refusal :=
  .next (s.grant reqLookup anyPort formName (reading lookupAnswer))

/-- A record LIST_POINTS may list: LIVE, ORPHANED or RETIRED (R23). -/
def PointRecord.listed (r : PointRecord) : Bool := r.published || r.state == .retired

/-- The node filter a byte gives: 0xFF is absent, and a slot above 31 is refused (R23). -/
def nodeFilterOf (b : Byte) : Option (Option Nat) :=
  if b = 0xFF then some none else if b.toNat ≤ 31 then some (some b.toNat) else none

/-- The direction filter a byte gives: 0xFF is absent (R23). -/
def directionFilterOf (b : Byte) : Option (Option Direction) :=
  if b = 0xFF then some none else (directionOf b).map some

/-- The first six records LIST_POINTS selects (R23). -/
def State.listPoints (s : State) (start : Nat) (node : Option Nat) (dir : Option Direction) : List (DirSlot × PointRecord) :=
  ((entries s.points).filter fun e =>
    decide (start ≤ e.1.val) && e.2.listed && (node == none || node == some e.2.nodeSlot.val) &&
      (dir == none || dir == some e.2.direction)).take 6

/-- The next slot of LIST_POINTS: one past the sixth selected record, and 512 when fewer were selected (R23). -/
def listNextSlot (selected : List (DirSlot × PointRecord)) : Nat :=
  match selected[5]? with
  | some e => e.1.val + 1
  | none => 512

/-- One entry of LIST_POINTS (ch. 8.4). -/
def listEntry (e : DirSlot × PointRecord) : List Byte :=
  le16 (handleOf e.1 e.2) ++ [byte e.2.nodeSlot.val, e.2.direction.code, e.2.state.code]

/-- The rule of LIST_POINTS (R23). -/
def listPointsAnswer (_ : PortId) (a : Nat × Byte × Byte) (s : State) : Response :=
  match nodeFilterOf a.2.1, directionFilterOf a.2.2 with
  | some node, some dir =>
    let sel := s.listPoints a.1 node dir
    answerOk (le16 (listNextSlot sel) ++ byte sel.length :: sel.flatMap listEntry)
  | _, _ => answer .badRequest

/-- LIST_POINTS (R23). -/
def execListPoints (s : State) : Host.Outcome State Fault Refusal :=
  .next (s.grant reqListPoints anyPort formList (reading listPointsAnswer))

/-- The result fields of DESCRIBE_POINT (R24, ch. 8.4). -/
def describeFields (station : Text) (r : PointRecord) : List Byte :=
  let unit := r.unitText.getD []
  let name := fullName station r.elementName
  [r.state.code, byte r.nodeSlot.val, byte r.elementIndex, r.kind.code, r.direction.code, byte r.width, byte r.imageOffset] ++
    le32 r.rawLow ++ le32 r.rawHigh ++ le32 r.descriptorSafe ++ le32 r.safeValue ++
    byte unit.length :: unit ++ byte name.length :: name

/-- The rule of DESCRIBE_POINT (R24). -/
def describePointAnswer (_ : PortId) (h : Nat) (s : State) : Response :=
  match s.checkHandle false h with
  | .refused e => answer e
  | .accepted i => answerOk (describeFields (s.node (s.point i).nodeSlot).stationText (s.point i))

/-- DESCRIBE_POINT (R24). -/
def execDescribePoint (s : State) : Host.Outcome State Fault Refusal :=
  .next (s.grant reqDescribePoint anyPort formWord (reading describePointAnswer))

/-- The number of records in a state. -/
def State.countState (s : State) (st : PointState) : Nat := s.points.toList.countP fun r => r.state == st

/-- The rule of POINT_SUMMARY (R25). -/
def pointSummaryAnswer (_ : PortId) (_ : Unit) (s : State) : Response :=
  answerOk (le16 (s.countState .free) ++ le16 (s.countState .reserved) ++ le16 (s.countState .live) ++
    le16 (s.countState .orphaned) ++ le16 (s.countState .retired))

/-- POINT_SUMMARY (R25). -/
def execPointSummary (s : State) : Host.Outcome State Fault Refusal :=
  .next (s.grant reqPointSummary anyPort formNone (reading pointSummaryAnswer))

end Sys2Proof.Machine
end

