-- ==== Sys2Proof/Machine/Discovery.lean ====
section
/-! DEFINITION. The node table at the completion of a call (ch. 2.2 to 2.6) and what the completion does to values and qualities
(ch. 4.3, 4.4). -/

namespace Sys2Proof.Machine

/-- What the node table is handed of an accepted answer: the three status bits and the payload (R62). -/
structure Answer where
  fresh : Bool
  held : Bool
  fault : Bool
  payload : List Byte
deriving DecidableEq, Repr

/-! ## Status fields (R30) -/

/-- The answer is a restart of the node: FRESH in an answer other than a PROBE's while FRESH is not expected (R30). -/
def isRestart (kind : CallKind) (ans : Answer) (r : NodeRecord) : Bool := kind != .probe && ans.fresh && !r.freshExpected

/-- The status fields after a taken answer of a kind other than PARK (R30). FRESH expected becomes what the answer carries: a PROBE
answer sets it either way, another answer without FRESH clears it, and one with FRESH leaves it yes or, as a restart, sets it. -/
def NodeRecord.withStatus (r : NodeRecord) (kind : CallKind) (ans : Answer) : NodeRecord :=
  { r with
    held := if ans.held then true else if kind = .clearHold then false else r.held
    freshExpected := ans.fresh
    nodeFault := if kind = .exchange then ans.fault else r.nodeFault }

/-- A taken answer: consecutive failures become 0 and the status fields are updated (R30, R35, R42). -/
def NodeRecord.answered (r : NodeRecord) (kind : CallKind) (ans : Answer) : NodeRecord :=
  { r.withStatus kind ans with failures := 0 }

/-! ## Identity, hold check, station names (ch. 2.3) -/

/-- The type text of an identity: 1 to 4 legal characters, then spaces up to the fourth byte (R31). -/
def typeTextOf (field : List Byte) : Option Text :=
  let t := field.takeWhile fun c => c != 0x20
  if t ≠ [] ∧ t.all legalChar ∧ (field.drop t.length).all (fun c => c == 0x20) then some t else none

/-- The identity a PROBE answer carries, when it is valid (R31, ch. 8.6). -/
def parseIdentity : List Byte → Option Identity
  | [t0, t1, t2, t3, u0, u1, u2, u3, g0, g1, g2, g3, count, inLen, outLen, hold] =>
    match typeTextOf [t0, t1, t2, t3] with
    | some t =>
      if count.toNat ≤ Config.elementsPerNode ∧ inLen.toNat ≤ Config.imageBytes ∧ outLen.toNat ≤ Config.imageBytes ∧
          1 ≤ hold.toNat then
        some { typeText := t, unitNumber := w32 u0 u1 u2 u3, layoutSignature := w32 g0 g1 g2 g3
               elementCount := count.toNat, inputLength := inLen.toNat, outputLength := outLen.toNat
               holdTime := 10 * hold.toNat }
      else none
    | none => none
  | _ => none

/-- The hold check of R32 against a link's period in force and pending period. -/
def holdCheck (r : LinkRecord) (holdTime : Nat) : Bool :=
  decide (3 * r.settings.period ≤ holdTime) &&
    match r.pendingPeriod with
    | some p => decide (3 * p ≤ holdTime)
    | none => true

/-- A decimal digit. -/
def digit (n : Nat) : Byte := byte (0x30 + n)

/-- The default station name: type text, '-', the link digit, the address as two digits (R33). -/
def defaultName (t : Text) (l : LinkId) (a : NodeAddr) : Text :=
  t ++ [0x2D, digit l.toNat, digit ((a.val + 1) / 10), digit ((a.val + 1) % 10)]

/-- The forms tried for a default name: the name, then with its last 1, 2, … characters replaced by '~' (R33). -/
def nameForms (name : Text) : List Text :=
  name :: (List.range name.length).map fun k => name.take (name.length - (k + 1)) ++ List.replicate (k + 1) 0x7E

/-- The first form of a default name that no other record in use has (R33). -/
def State.freshName (s : State) (n : NodeSlot) (name : Text) : Option Text :=
  (nameForms name).find? fun f => !s.nameTaken n f

/-- The station name of a node that enters the table: absent on the outside when every form is in use. A node that comes from
RESYNC or LOST with an unchanged type text keeps the name it had (R33). -/
def State.entryName (s : State) (l : LinkId) (a : NodeAddr) (t : Text) : Option (Option Text) :=
  let r := s.nodeAt l a
  if (r.state = .resync ∨ r.state = .lost) ∧ r.identity.typeText = t then some r.stationName
  else (s.freshName (nodeSlotOf l a) (defaultName t l a)).map some

/-! ## Refusal, entry, completion of describing -/

/-- A node record on entry to REFUSED (R41). -/
def NodeRecord.refuse (r : NodeRecord) (why : RefuseReason) : NodeRecord :=
  { r with state := .refused, refuseReason := some why, failures := 0, lostCause := none }

/-- A node goes to REFUSED: its reservations are released and the reason is recorded (R41). -/
def State.refuseNode (s : State) (n : NodeSlot) (r : NodeRecord) (why : RefuseReason) : State :=
  (s.releaseReservations n).setNode n (r.refuse why)

/-- Describing is complete: publication, ONLINE, incarnation (R40). -/
def State.completeDescribing (s : State) (n : NodeSlot) : State :=
  let s1 := s.publish n
  let r := s1.node n
  s1.setNode n { r with state := .online, incarnation := r.incarnation + 1, failures := 0 }

/-- The link engine resets a node's sequence bit at its entry by PROBE (R64). -/
def State.clearSeqBit (s : State) (l : LinkId) (a : NodeAddr) : State :=
  s.setLink l { s.link l with seqBits := (s.link l).seqBits.set a false }

/-- A node record on entry to DESCRIBING (R30, R34). -/
def NodeRecord.enterDescribing (r : NodeRecord) (id : Identity) (name : Option Text) : NodeRecord :=
  { r with
    state := .describing, identity := id, stationName := name, cursor := 0, packedIn := 0, packedOut := 0, failures := 0
    refuseReason := none, lostCause := none, nodeFault := false }

/-- A PROBE answer taken as a newcomer's (R34), on the node's record with its status fields updated. The identity of a node refused
BAD_IDENTITY takes its VACANT values (R31, R41; log entry 11). -/
def State.newcomer (s : State) (l : LinkId) (a : NodeAddr) (id : Option Identity) : State :=
  let n := nodeSlotOf l a
  let r := s.node n
  match id with
  | none => s.refuseNode n { r with identity := Identity.vacant } .badIdentity
  | some id =>
    match s.entryName l a id.typeText with
    | none => s.refuseNode n { r with identity := Identity.vacant, stationName := none } .badIdentity
    | some name =>
      if holdCheck (s.link l) id.holdTime = false then
        s.refuseNode n { r with identity := id, stationName := name } .cycleTooSlow
      else
        let s1 := (s.setNode n (r.enterDescribing id name)).clearSeqBit l a
        if id.elementCount = 0 then s1.completeDescribing n else s1

/-! ## Completions of PROBE (R34, R44, R47) -/

/-- An OUT record when its node returns from RESYNC (R96). -/
def PointRecord.resyncReturn (r : PointRecord) : PointRecord :=
  match r.direction with
  | .out => { r with quality := .safe }.setApplied none
  | .inp => r

/-- A RESYNC or LOST node returns to ONLINE: incarnation, failures, causes, sequence bit (R44, R47, R64). -/
def State.returnNode (s : State) (l : LinkId) (a : NodeAddr) : State :=
  let n := nodeSlotOf l a
  let r := s.node n
  (s.setNode n
    { r with
      state := .online, incarnation := r.incarnation + 1, failures := 0, lostCause := none
      refuseReason := none }).clearSeqBit l a

/-- A taken PROBE answer (R34, R44, R47). -/
def State.probeAnswered (s : State) (l : LinkId) (a : NodeAddr) (ans : Answer) : State :=
  let n := nodeSlotOf l a
  let old := s.node n
  let id := parseIdentity ans.payload
  let s1 := s.setNode n (old.withStatus .probe ans)
  if old.state = .vacant then s1.newcomer l a id
  else if id = some old.identity then
    if old.state = .resync then
      (s1.returnNode l a).event fun _ r => if r.liveOf n then r.resyncReturn else r
    else if holdCheck (s.link l) old.identity.holdTime then
      (s1.returnNode l a).event fun _ r =>
        if r.state = .orphaned ∧ r.nodeSlot = n then { r with state := .live } else r
    else s1.setNode n { s1.node n with refuseReason := some .cycleTooSlow }
  else (s1.retireNode n).newcomer l a id

/-- A failed completion of a PROBE: only a RESYNC node counts it (R34, R44, R47). -/
def State.probeFailed (s : State) (l : LinkId) (a : NodeAddr) : State :=
  let n := nodeSlotOf l a
  let r := s.node n
  if r.state = .resync then
    if (s.link l).settings.lossLimit ≤ r.failures + 1 then s.loseNodes (fun m => m == n) .failed
    else s.setNode n { r with failures := r.failures + 1 }
  else s

/-! ## Completions of DESCRIBE (R35 to R40) -/

/-- An element's self-description (ch. 8.6). -/
structure Descriptor where
  kind : Kind
  direction : Direction
  width : Nat
  rawLow : Word32
  rawHigh : Word32
  safe : Word32
  name : Text
  unit : Text
deriving DecidableEq, Repr

/-- The descriptor in a DESCRIBE answer, when its kind, direction, width, flags and lengths pass (R36, the conditions for every
element). -/
def parseDescriptor : List Byte → Option Descriptor
  | k :: d :: w :: f :: a0 :: a1 :: a2 :: a3 :: b0 :: b1 :: b2 :: b3 :: c0 :: c1 :: c2 :: c3 :: n :: rest =>
    match kindOf k, directionOf d, rest.drop n.toNat with
    | some kind, some dir, u :: unit =>
      if 1 ≤ w.toNat ∧ w.toNat ≤ 32 ∧ f = 0 ∧ n.toNat ≤ 12 ∧ u.toNat ≤ 6 ∧ unit.length = u.toNat then
        some { kind := kind, direction := dir, width := w.toNat, rawLow := w32 a0 a1 a2 a3, rawHigh := w32 b0 b1 b2 b3
               safe := w32 c0 c1 c2 c3, name := rest.take n.toNat, unit := unit }
      else none
    | _, _, _ => none
  | _ => none

/-- The range conditions of R36 on a numeric element. -/
def Descriptor.rangeLegal (d : Descriptor) : Bool :=
  match d.kind with
  | .unsigned => decide (d.rawLow.toNat ≤ d.rawHigh.toNat) && decide (d.rawHigh.toNat ≤ 2 ^ d.width - 1)
  | .signed =>
    decide (d.rawLow.toInt ≤ d.rawHigh.toInt) && decide (-(2 ^ (d.width - 1) : Int) ≤ d.rawLow.toInt) &&
      decide (d.rawHigh.toInt ≤ 2 ^ (d.width - 1) - 1)
  | _ => true

/-- The safe value condition of R36 on an OUT element. -/
def Descriptor.safeLegal (d : Descriptor) : Bool :=
  match d.kind with
  | .unsigned | .signed => valueInRange d.kind d.width d.rawLow d.rawHigh d.safe
  | _ => decide (d.safe.toNat ≤ 2 ^ d.width - 1)

/-- The conditions of R36 on an element that is not a PAD. `used` are the element names of the node's RESERVED records. -/
def Descriptor.legal (d : Descriptor) (used : List Text) : Bool :=
  d.kind == .pad ||
    ((d.kind != .flag || d.width == 1) && decide (1 ≤ d.name.length) && d.name.all legalChar && !used.contains d.name &&
      d.unit.all printable && d.rangeLegal && (d.direction == .inp || d.safeLegal))

/-- The element names of a node's RESERVED records (R27, R36). -/
def State.reservedNames (s : State) (n : NodeSlot) : List Text :=
  (s.points.toList.filter fun r => r.state == .reserved && r.nodeSlot == n).map fun r => r.elementName

/-- The record reserved for an element: static fields of R1, starting values of R2, the generation incremented (R4, R9). -/
def reservedRecord (generation : Nat) (n : NodeSlot) (index offset : Nat) (d : Descriptor) : PointRecord :=
  let isOut := d.direction == .out
  let safe := if isOut then d.safe else 0
  let full := d.kind == .flag || d.kind == .bits
  { PointRecord.reset with
    state := .reserved, generation := nextGeneration generation, nodeSlot := n, elementIndex := index, kind := d.kind
    direction := d.direction, width := d.width, imageOffset := offset, elementName := d.name
    unitText := if d.unit = [] then none else some d.unit
    rawLow := if full then 0 else d.rawLow
    rawHigh := if full then BitVec.ofNat 32 (2 ^ d.width - 1) else d.rawHigh
    descriptorSafe := safe, safeValue := safe, demand := safe, pending := isOut }

/-- The lowest-numbered FREE record (R8). -/
def State.freePoint (s : State) : Option DirSlot := lowest (fun r : PointRecord => r.state == .free) s.points

/-- The packed-bit count of a direction (R37). -/
def NodeRecord.packed (r : NodeRecord) : Direction → Nat
  | .inp => r.packedIn
  | .out => r.packedOut

/-- The image length of a direction, in bits (R37). -/
def NodeRecord.imageBitCount (r : NodeRecord) : Direction → Nat
  | .inp => 8 * r.identity.inputLength
  | .out => 8 * r.identity.outputLength

/-- A packed-bit count increased by an element's width (R37). -/
def NodeRecord.pack (r : NodeRecord) (d : Direction) (width : Nat) : NodeRecord :=
  match d with
  | .inp => { r with packedIn := r.packedIn + width }
  | .out => { r with packedOut := r.packedOut + width }

/-- The describe cursor moves past an element, and describing is complete when it reaches the element count (R35, R40). -/
def State.advanceCursor (s : State) (n : NodeSlot) : State :=
  let r := s.node n
  let s1 := s.setNode n { r with cursor := r.cursor + 1 }
  if r.cursor + 1 = r.identity.elementCount then s1.completeDescribing n else s1

/-- An element that passed R36 is packed, given a record unless it is a PAD, and the cursor moves on (R35, R37, R38). The packed-bit count
has increased when the layout is found to overflow (log entry 10). -/
def State.placeElement (s : State) (n : NodeSlot) (d : Descriptor) : State :=
  let r := s.node n
  let offset := r.packed d.direction
  let r1 := r.pack d.direction d.width
  if r.imageBitCount d.direction < offset + d.width then s.refuseNode n r1 .layout
  else
    if d.kind = .pad then (s.setNode n r1).advanceCursor n
    else
      match s.freePoint with
      | none => s.refuseNode n r1 .directoryFull
      | some i =>
        ((s.setNode n r1).updatePoints fun j p =>
          if j = i then reservedRecord p.generation n r.cursor offset d else p).advanceCursor n

/-- Describing restarts from element 0 (R39). -/
def State.restartDescribing (s : State) (n : NodeSlot) (r : NodeRecord) : State :=
  (s.releaseReservations n).setNode n { r with cursor := 0, packedIn := 0, packedOut := 0 }

/-- A taken DESCRIBE answer (R35). -/
def State.describeAnswered (s : State) (n : NodeSlot) (ans : Answer) : State :=
  let old := s.node n
  let r := old.answered .describe ans
  if isRestart .describe ans old then s.restartDescribing n r
  else
    match parseDescriptor ans.payload with
    | some d =>
      if d.legal (s.reservedNames n) then (s.setNode n r).placeElement n d else s.refuseNode n r .descriptor
    | none => s.refuseNode n r .descriptor

/-- A failed completion of a DESCRIBE: VACANT at the loss limit (R35). -/
def State.describeFailed (s : State) (l : LinkId) (n : NodeSlot) : State :=
  let r := s.node n
  if (s.link l).settings.lossLimit ≤ r.failures + 1 then (s.releaseReservations n).setNode n r.vacated
  else s.setNode n { r with failures := r.failures + 1 }

/-! ## Completions of EXCHANGE and CLEAR_HOLD (R42, R43, R89 to R94) -/

/-- The value extracted for a point from an input image (R89). -/
def PointRecord.extracted (r : PointRecord) (image : List Byte) : Word32 :=
  let taken := imageBits image r.imageOffset r.width
  match r.kind with
  | .signed => (BitVec.ofNat r.width taken).signExtend 32
  | _ => BitVec.ofNat 32 taken

/-- An IN record at a taken EXCHANGE answer (R89, R90). -/
def PointRecord.takeInput (r : PointRecord) (ans : Answer) : PointRecord :=
  let v := r.extracted ans.payload
  let q := if ans.fault ∨ r.inRange v = false then Quality.suspect else Quality.good
  if r.substPort.isSome then { r with fieldValue := v, fieldQuality := q }
  else { r with fieldValue := v, fieldQuality := q, value := v, quality := q }

/-- An OUT record whose snapshot an answer without HELD confirms (R91). -/
def PointRecord.confirm (r : PointRecord) : PointRecord :=
  match r.inFlight with
  | some v =>
    { r with inFlight := none, quality := if r.lease.isSome then Quality.good else Quality.safe }.setApplied (some v)
  | none => r.setApplied none

/-- An OUT record whose node stands at its own safe outputs (R92, R93). -/
def PointRecord.standSafe (r : PointRecord) : PointRecord := { r with inFlight := none, quality := .safe }.setApplied none

/-- A record of the node at a taken EXCHANGE answer that is no restart (R89 to R92). -/
def PointRecord.exchanged (r : PointRecord) (ans : Answer) : PointRecord :=
  match r.direction with
  | .inp => r.takeInput ans
  | .out => if ans.held then r.standSafe else r.confirm

/-- A record of the node at a taken CLEAR_HOLD answer that is no restart (R93): the in-flight value is absent already (R77). -/
def PointRecord.holdCleared (r : PointRecord) : PointRecord :=
  match r.direction with
  | .inp => r
  | .out => { r with quality := .safe }.setApplied none

/-- A taken answer that is a restart moves the node from ONLINE to RESYNC and uses nothing of its payload (R43). -/
def State.enterResync (s : State) (n : NodeSlot) (r : NodeRecord) : State :=
  (s.setNode n { r with state := .resync }).updatePoints fun _ p =>
    if p.liveOf n ∧ p.direction = .out then { p with inFlight := none } else p

/-- A taken EXCHANGE answer (R42). -/
def State.exchangeAnswered (s : State) (n : NodeSlot) (ans : Answer) : State :=
  let old := s.node n
  let r := old.answered .exchange ans
  if isRestart .exchange ans old then s.enterResync n r
  else (s.setNode n r).event fun _ p => if p.liveOf n then p.exchanged ans else p

/-- A taken CLEAR_HOLD answer (R42, R93). -/
def State.clearHoldAnswered (s : State) (n : NodeSlot) (ans : Answer) : State :=
  let old := s.node n
  let r := old.answered .clearHold ans
  if isRestart .clearHold ans old then s.enterResync n r
  else (s.setNode n r).event fun _ p => if p.liveOf n then p.holdCleared else p

/-- A failed completion of an EXCHANGE or CLEAR_HOLD (R42, R94), with the loss it may bring at the same event (R46, R95). -/
def State.exchangeFailed (s : State) (l : LinkId) (n : NodeSlot) : State :=
  let r := { s.node n with failures := (s.node n).failures + 1 }
  let lost := decide ((s.link l).settings.lossLimit ≤ r.failures)
  (s.setNode n (if lost then r.lose .failed else r)).event fun _ p =>
    if p.liveOf n then (if lost then p.exchangeFailed.lose else p.exchangeFailed) else p

/-! ## Which completions are taken, and what they do (R29, R78) -/

/-- The node record expects the completion of a call (R29). -/
def NodeRecord.takes (r : NodeRecord) (kind : CallKind) (payload : List Byte) : Bool :=
  match kind with
  | .probe => (r.state == .vacant && !r.parkOwed) || r.state == .resync || r.state == .lost
  | .describe => r.state == .describing && payload == [byte r.cursor]
  | .exchange | .clearHold => r.state == .online
  | .park => (r.state == .vacant || r.state == .parked) && r.parkOwed

/-- A taken completion (ch. 2.3 to 2.8): an accepted answer, or `none` for the fact of failure. -/
def State.takeCompletion (s : State) (l : LinkId) (a : NodeAddr) (kind : CallKind) (ans : Option Answer) : State :=
  let n := nodeSlotOf l a
  match kind, ans with
  | .probe, some ans => s.probeAnswered l a ans
  | .probe, none => s.probeFailed l a
  | .describe, some ans => s.describeAnswered n ans
  | .describe, none => s.describeFailed l n
  | .exchange, some ans => s.exchangeAnswered n ans
  | .clearHold, some ans => s.clearHoldAnswered n ans
  | .exchange, none => s.exchangeFailed l n
  | .clearHold, none => s.exchangeFailed l n
  | .park, _ => s.setNode n { s.node n with parkOwed := false }

/-- A completion that is not taken: an EXCHANGE clears the in-flight values of the node's records, and no other kind changes
anything (R78). -/
def State.discardCompletion (s : State) (n : NodeSlot) (kind : CallKind) : State :=
  if kind = .exchange then
    s.updatePoints fun _ p => if p.nodeSlot = n then { p with inFlight := none } else p
  else s

end Sys2Proof.Machine
end

