-- ==== Sys2Proof/Machine/LinkEngine.lean ====
section
/-! DEFINITION. The link engines (ch. 3): the cycle, the building of calls, attempts, answers and completions: CYCLE_TIMER_EXPIRY,
CALL_BUILD, ATTEMPT_RETRY, ANSWER_RECEIVED, REPLY_TIMEOUT, ANSWER_BAD_LENGTH, ANSWER_TRUNCATED, FRAMING_FAULT and
BROADCAST_PARK_COMPLETION. -/

namespace Sys2Proof.Machine

/-! ## Frames on the line (R60, R61, ch. 8.6) -/

/-- The kind byte: the call kind in bits 0 to 3, the sequence bit in bit 7. -/
def kindByte (kind : CallKind) (seqBit : Bool) : Byte := if seqBit then kind.code + 0x80 else kind.code

/-- The address byte of a call: 1 to 16, and 0 for the broadcast. -/
def addressByte : Option NodeAddr → Byte
  | some a => byte (a.val + 1)
  | none => 0

/-- The call frame as it is sent: address, kind, payload length, payload, CRC (R60). Every retry sends the same bytes (R63). -/
def Call.frame (c : Call) : List Byte :=
  let body := addressByte c.target :: kindByte c.kind c.seqBit :: byte c.payload.length :: c.payload
  body ++ [crc8 body]

/-- The answer payload length a call kind requires (R62). -/
def answerLengthLegal (c : Call) (n : Nat) : Bool :=
  match c.kind with
  | .probe => n == 16
  | .describe => decide (18 ≤ n) && decide (n ≤ 36)
  | .exchange => n == c.answerLength
  | .clearHold | .park => n == 0

/-- The checks of R62 on the characters received: the accepted answer, or `none` when the attempt fails. Characters after
5 + length are not of the answer (log entry 16), and a run that is not complete is not accepted (log entry 17). -/
def acceptAnswer (c : Call) (frame : List Byte) : Option Answer :=
  match c.target, frame with
  | some a, address :: kind :: status :: len :: rest =>
    let payload := rest.take len.toNat
    if len.toNat ≤ Config.answerPayload ∧ rest[len.toNat]? = some (crc8 (address :: kind :: status :: len :: payload)) ∧
        address = byte (0x80 + (a.val + 1)) ∧ kind = kindByte c.kind c.seqBit ∧ answerLengthLegal c len.toNat then
      some { fresh := status.getLsbD 0, held := status.getLsbD 1, fault := status.getLsbD 2, payload := payload }
    else none
  | _, _ => none

/-! ## The choice of the next call (R72, R73, R74) -/

/-- The first address of what is left of the exchange list whose node is ONLINE, and the list after it: any other address is passed
over (R72). -/
def State.nextExchange (s : State) (l : LinkId) : List NodeAddr → Option (NodeAddr × List NodeAddr)
  | [] => none
  | a :: rest => if (s.nodeAt l a).state = .online then some (a, rest) else s.nextExchange l rest

/-- The lowest address that meets a test. -/
def lowestAddr (test : NodeAddr → Bool) : Option NodeAddr := (indices 16).find? test

/-- The first address at or after a cursor that meets a test, wrapping from 16 to 1 (R74). -/
def rotateAddr (cursor : NodeAddr) (test : NodeAddr → Bool) : Option NodeAddr :=
  ((indices 16).drop cursor.val ++ (indices 16).take cursor.val).find? test

/-- The classes of service calls, in order of priority (R73). -/
inductive ServiceClass where
  | owedPark
  | resync
  | describe
  | lost
  | vacant
deriving DecidableEq, Repr

/-- The address qualifies for the class (R73). -/
def State.qualifies (s : State) (l : LinkId) (c : ServiceClass) (a : NodeAddr) : Bool :=
  let r := s.nodeAt l a
  match c with
  | .owedPark => (r.state == .vacant || r.state == .parked) && r.parkOwed
  | .resync => r.state == .resync
  | .describe => r.state == .describing
  | .lost => r.state == .lost
  | .vacant => r.state == .vacant && !r.parkOwed && (s.link l).settings.scanSet.getLsbD a.val

/-- The address a class would serve: the lowest one, or the next in the class's rotation (R73, R74). -/
def State.classAddr (s : State) (l : LinkId) (c : ServiceClass) : Option NodeAddr :=
  match c with
  | .owedPark | .resync | .describe => lowestAddr (s.qualifies l c)
  | .lost => rotateAddr (s.link l).lostCursor (s.qualifies l c)
  | .vacant => rotateAddr (s.link l).vacantCursor (s.qualifies l c)

/-- The first of some classes that has a qualifying address. -/
def State.firstClass (s : State) (l : LinkId) : List ServiceClass → Option (ServiceClass × NodeAddr)
  | [] => none
  | c :: rest =>
    match s.classAddr l c with
    | some a => some (c, a)
    | none => s.firstClass l rest

/-- The service choice of R73. -/
def State.serviceChoice (s : State) (l : LinkId) : Option (ServiceClass × NodeAddr) :=
  s.firstClass l [.owedPark, .resync, .describe, .lost, .vacant]

/-- A service turn is available: the cycle is not late and fewer calls than the setting have started (R73, R76). -/
def LinkRecord.serviceTurn (r : LinkRecord) : Bool := !r.late && decide (r.serviceStarted < r.settings.serviceCalls)

/-- The cycle has a call to make now (R72, R73). -/
def State.hasNextCall (s : State) (l : LinkId) : Bool :=
  (s.nextExchange l (s.link l).exchangeList).isSome || ((s.link l).serviceTurn && (s.serviceChoice l).isSome)

/-! ## The cycle (R71, R73, R75, R76) -/

/-- The addresses whose node is ONLINE, in ascending order (R71). -/
def State.onlineAddrs (s : State) (l : LinkId) : List NodeAddr :=
  (indices 16).filter fun a => (s.nodeAt l a).state == .online

/-- The link record at a cycle start, in the order of R71. -/
def LinkRecord.startCycle (r : LinkRecord) (online : List NodeAddr) : LinkRecord :=
  let period := r.pendingPeriod.getD r.settings.period
  { r with
    settings := { r.settings with period := period }, pendingPeriod := none, cycleTimer := some period
    cycles := r.cycles + 1, serviceStarted := 0, exchangeList := online, late := false, complete := false }

/-- The cycle is marked complete when it has no call to make (R73, R75). -/
def State.settleCycle (s : State) (l : LinkId) : State :=
  s.setLink l { s.link l with complete := !s.hasNextCall l }

/-- A cycle starts (R71). With nothing to call it is complete at its start (R75). -/
def State.startCycle (s : State) (l : LinkId) : State :=
  (s.setLink l ((s.link l).startCycle (s.onlineAddrs l))).settleCycle l

/-- What follows when the cycle of a RUNNING link has no call in flight: the next call of the cycle if there is one; otherwise a late
cycle gives way to the next one (R76), and a cycle in time is complete (R73). -/
def State.proceed (s : State) (l : LinkId) : State :=
  if (s.link l).state = .running then
    if s.hasNextCall l then s
    else if (s.link l).late then s.startCycle l
    else s.settleCycle l
  else s

/-- The late expiry of R76 on the link record. -/
def LinkRecord.lateExpiry (r : LinkRecord) : LinkRecord :=
  { r with
    lateCycles := satAdd 65535 r.lateCycles 1
    droppedService := satAdd 65535 r.droppedService (r.settings.serviceCalls - r.serviceStarted)
    late := true, cycleTimer := none }

/-- The expiry of a cycle timer that has run out (R71, R75, R76). With no call in flight and none left to make, the late cycle gives
way at once (log entry 8). -/
def State.cycleExpiry (s : State) (l : LinkId) : State :=
  let r := s.link l
  if r.complete then s.startCycle l
  else
    let s1 := s.setLink l r.lateExpiry
    if r.call.isSome then s1 else s1.proceed l

/-- CYCLE_TIMER_EXPIRY (R71, R75, R76): it comes when the timer of a RUNNING link has counted all its ticks (log entries 1 and 6). -/
def execCycleTimerExpiry (l : LinkId) (s : State) : Host.Outcome State Fault Refusal :=
  .next (if (s.link l).state = .running ∧ (s.link l).cycleTimer = some 0 then s.cycleExpiry l else s)

/-! ## Building a call (R63, R64, R65, R77) -/

/-- An addressed call is built and its first attempt begins: the node's sequence bit is toggled, and 1 + retry limit attempts are
allowed (R63, R64). -/
def State.placeCall (s : State) (l : LinkId) (a : NodeAddr) (kind : CallKind) (payload : List Byte) : State :=
  let r := s.link l
  let bit := !r.seqBits[a]
  s.setLink l
    { r with
      seqBits := r.seqBits.set a bit
      call := some
        { target := some a, kind := kind, seqBit := bit, payload := payload, attemptsLeft := r.settings.retryLimit
          waiting := true, answerLength := (s.nodeAt l a).identity.inputLength
          builtVacant := (s.nodeAt l a).state == .vacant } }

/-- A record's bits in the output image: the low width bits of its demand at its offset (R77). -/
def outputBits (r : PointRecord) : Nat := 2 ^ r.imageOffset * (r.demand.toNat % 2 ^ r.width)

/-- A LIVE OUT record of the node (R77). -/
def PointRecord.drivenBy (r : PointRecord) (n : NodeSlot) : Bool := r.liveOf n && r.direction == .out

/-- The output image of a node, exactly output length bytes; bits of no point are 0 (R77). -/
def State.outputImage (s : State) (n : NodeSlot) : List Byte :=
  natImage (s.node n).identity.outputLength
    ((s.points.toList.filter fun r => r.drivenBy n).foldl (fun acc r => acc ||| outputBits r) 0)

/-- The snapshot: each LIVE OUT record's in-flight value is set to its demand (R77). -/
def State.takeSnapshot (s : State) (n : NodeSlot) : State :=
  s.updatePoints fun _ r => if r.drivenBy n then { r with inFlight := some r.demand } else r

/-- The exchange-class call of an ONLINE node: CLEAR_HOLD while the held flag is yes, EXCHANGE with its snapshot otherwise (R72). -/
def State.buildExchange (s : State) (l : LinkId) (a : NodeAddr) : State :=
  let n := nodeSlotOf l a
  if (s.node n).held then s.placeCall l a .clearHold []
  else (s.takeSnapshot n).placeCall l a .exchange (s.outputImage n)

/-- A cursor moves past the address its class has taken (R74). -/
def LinkRecord.moveCursor (r : LinkRecord) (c : ServiceClass) (a : NodeAddr) : LinkRecord :=
  match c with
  | .lost => { r with lostCursor := a + 1 }
  | .vacant => { r with vacantCursor := a + 1 }
  | .owedPark | .resync | .describe => r

/-- The call of a service class (R73). -/
def State.buildService (s : State) (l : LinkId) (c : ServiceClass) (a : NodeAddr) : State :=
  let r := (s.link l).moveCursor c a
  let s1 := s.setLink l { r with serviceStarted := r.serviceStarted + 1 }
  match c with
  | .owedPark => s1.placeCall l a .park []
  | .describe => s1.placeCall l a .describe [byte (s.nodeAt l a).cursor]
  | .resync | .lost | .vacant => s1.placeCall l a .probe []

/-- The broadcast PARK of a link stop: sent once, sequence bit 0, no sequence bit toggled (R65). -/
def broadcastPark : Call :=
  { target := none, kind := .park, seqBit := false, payload := [], attemptsLeft := 0, waiting := true, answerLength := 0
    builtVacant := false }

/-- The next call of a RUNNING link's cycle (R72, R73); with none to make, the cycle ends as `proceed` says. -/
def State.buildNext (s : State) (l : LinkId) : State :=
  match s.nextExchange l (s.link l).exchangeList with
  | some (a, rest) => (s.setLink l { s.link l with exchangeList := rest }).buildExchange l a
  | none =>
    if (s.link l).serviceTurn then
      match s.serviceChoice l with
      | some (c, a) => (s.setLink l { s.link l with exchangeList := [] }).buildService l c a
      | none => s.proceed l
    else s.proceed l

/-- The next call of a link whose line guard is met (R63, R80): a RUNNING link with an unfinished cycle builds its next call, a
STOPPING link the broadcast PARK. -/
def State.callBuild (s : State) (l : LinkId) : State :=
  let r := s.link l
  if r.call.isSome then s
  else
    match r.state with
    | .off => s
    | .running => if r.complete then s else s.buildNext l
    | .stopping => s.setLink l { r with call := some broadcastPark }

/-- CALL_BUILD (R59, R63, R65, R71 to R74, R77, R80): the guard is met and the first attempt begins; what TXDn and TXENn then show is said in
Machine/Line.lean. With a call in flight, a complete cycle or an OFF link there is no call to build (log
entry 1). -/
def execCallBuild (l : LinkId) (s : State) : Host.Outcome State Fault Refusal := .next (s.callBuild l)

/-! ## Attempts and completions (R61, R62, R63) -/

/-- The addressed call whose attempt waits for an answer. -/
def LinkRecord.awaited (r : LinkRecord) : Option (Call × NodeAddr) :=
  match r.call with
  | some c => if c.waiting then c.target.map fun a => (c, a) else none
  | none => none

/-- A failed completion is counted, but for a PROBE built for a VACANT record (R63). -/
def LinkRecord.countFailure (r : LinkRecord) (c : Call) : LinkRecord :=
  if c.kind = .probe ∧ c.builtVacant then r else { r with failedCalls := satAdd 65535 r.failedCalls 1 }

/-- The link record at the completion of its call. -/
def LinkRecord.endCall (r : LinkRecord) (c : Call) (ans : Option Answer) : LinkRecord :=
  match ans with
  | some _ => { r with call := none }
  | none => { r.countFailure c with call := none }

/-- The completion of a call (R63): handed to the node table, taken or not (R29, R78), after which the link moves on. -/
def State.completeCall (s : State) (l : LinkId) (c : Call) (a : NodeAddr) (ans : Option Answer) : State :=
  let n := nodeSlotOf l a
  let s1 := s.setLink l ((s.link l).endCall c ans)
  let s2 := if (s.node n).takes c.kind c.payload then s1.takeCompletion l a c.kind ans else s1.discardCompletion n c.kind
  s2.proceed l

/-- The attempt that waits for an answer fails: the call completes as failed after its last attempt, and is retried otherwise
(R63). -/
def State.attemptFails (s : State) (l : LinkId) : State :=
  match (s.link l).awaited with
  | none => s
  | some (c, a) =>
    if c.attemptsLeft = 0 then s.completeCall l c a none
    else s.setLink l { s.link l with call := some { c with waiting := false } }

/-- ATTEMPT_RETRY (R30, R63): after a failed attempt the same frame is sent again, and the node's retry total counts it. -/
def execAttemptRetry (l : LinkId) (s : State) : Host.Outcome State Fault Refusal :=
  .next (match (s.link l).call with
    | none => s
    | some c =>
      match c.target with
      | none => s
      | some a =>
        if c.waiting then s
        else
          let n := nodeSlotOf l a
          (s.setLink l
            { s.link l with call := some { c with waiting := true, attemptsLeft := c.attemptsLeft - 1 } }).setNode n
              { s.node n with retryTotal := satAdd 65535 (s.node n).retryTotal 1 })

/-- ANSWER_RECEIVED (R61, R62, R63). Characters that meet no waiting attempt are discarded (R61). -/
def execAnswerReceived (l : LinkId) (frame : List Byte) (s : State) : Host.Outcome State Fault Refusal :=
  .next (match (s.link l).awaited with
    | none => s
    | some (c, a) =>
      match acceptAnswer c frame with
      | some ans => s.completeCall l c a (some ans)
      | none => s.attemptFails l)

/-- REPLY_TIMEOUT (R61): no character has started when the reply timeout runs out. -/
def execReplyTimeout (l : LinkId) (s : State) : Host.Outcome State Fault Refusal := .next (s.attemptFails l)

/-- ANSWER_BAD_LENGTH (R61): a length byte above 40 fails the attempt; one of at most 40 is no such event (log entry 1). -/
def execAnswerBadLength (l : LinkId) (length : Byte) (s : State) : Host.Outcome State Fault Refusal :=
  .next (if Config.answerPayload < length.toNat then s.attemptFails l else s)

/-- ANSWER_TRUNCATED (R61): the line stays idle for two character times before the frame is complete. -/
def execAnswerTruncated (l : LinkId) (s : State) : Host.Outcome State Fault Refusal := .next (s.attemptFails l)

/-- FRAMING_FAULT (R59, R61): a received character whose stop bit is low (`receive` of Machine/Line.lean) ends the attempt that waits. -/
def execFramingFault (l : LinkId) (s : State) : Host.Outcome State Fault Refusal := .next (s.attemptFails l)

/-! ## The end of a link stop (R48, R81) -/

/-- A node slot belongs to a link. -/
def onLinkSlot (l : LinkId) (n : NodeSlot) : Bool := linkOfSlot n == l

/-- The node is ONLINE or RESYNC on the link. -/
def State.exchangingOn (s : State) (l : LinkId) (n : NodeSlot) : Bool :=
  onLinkSlot l n && ((s.node n).state == .online || (s.node n).state == .resync)

/-- The node is DESCRIBING on the link. -/
def State.describingOn (s : State) (l : LinkId) (n : NodeSlot) : Bool := onLinkSlot l n && (s.node n).state == .describing

/-- What the end of a link stop does to the link's node and point records (R48). -/
def State.stopNodes (s : State) (l : LinkId) : State :=
  let s1 := s.loseNodes (s.exchangingOn l) .stopped
  let s2 := s1.updatePoints fun _ r => if r.state = .reserved ∧ s.describingOn l r.nodeSlot then r.freed else r
  s2.mapNodes fun n r =>
    if onLinkSlot l n then { (if s.describingOn l n then r.vacated else r) with parkOwed := false } else r

/-- The link record at the end of a link stop (R81). -/
def LinkRecord.stopped (r : LinkRecord) : LinkRecord :=
  { r with
    state := .off, call := none, settings := { r.settings with period := r.pendingPeriod.getD r.settings.period }
    pendingPeriod := none }

/-- The broadcast PARK of the link is in flight. -/
def LinkRecord.parkingAll (r : LinkRecord) : Bool :=
  r.state == .stopping &&
    match r.call with
    | some c => c.target == none
    | none => false

/-- The end of a link stop (R81). -/
def State.endStop (s : State) (l : LinkId) : State := (s.stopNodes l).setLink l (s.link l).stopped

/-- BROADCAST_PARK_COMPLETION (R65, R81). -/
def execBroadcastParkCompletion (l : LinkId) (s : State) : Host.Outcome State Fault Refusal :=
  .next (if (s.link l).parkingAll then s.endStop l else s)

end Sys2Proof.Machine
end

