-- ==== Sys2Proof/Machine/Links.lean ====
section
/-! DEFINITION. The link requests (ch. 3.7): START_LINK, STOP_LINK, SET_LINK, LINK_STATUS. -/

namespace Sys2Proof.Machine

/-- The rule of a request that takes a link number: a number above 1 is answered BAD_REQUEST (ch. 3.7). -/
def onLinkNumber (act : LinkId → State → State × Response) (_ : PortId) (n : Nat) (s : State) : State × Response :=
  match linkOf n with
  | some l => act l s
  | none => (s, answer .badRequest)

/-- The link record of a START_LINK, before its cycle starts (R79). -/
def LinkRecord.started (r : LinkRecord) : LinkRecord :=
  { r with
    state := .running, cycles := 0, lateCycles := 0, failedCalls := 0, droppedService := 0, lostCursor := 0
    vacantCursor := 0 }

/-- A START_LINK of an OFF link, in the order of R79. Its first call is built by CALL_BUILD once the guard is met (log entry 7). -/
def State.startLink (s : State) (l : LinkId) : State :=
  ((s.setLink l (s.link l).started).mapNodes fun n r =>
    if onLinkSlot l n then { r with retryTotal := 0 } else r).startCycle l

/-- The rule of START_LINK (R79). -/
def startLinkRule (l : LinkId) (s : State) : State × Response :=
  match (s.link l).state with
  | .running => (s, answer .linkRunning)
  | .stopping => (s, answer .linkBusy)
  | .off => (s.startLink l, answer .ok)

/-- START_LINK (R79). -/
def execStartLink (s : State) : Host.Outcome State Fault Refusal :=
  .next (s.grant reqStartLink supervisorOnly formByte (onLinkNumber startLinkRule))

/-- The rule of STOP_LINK (R80): the link enters STOPPING, its timer stops, and no further call of the cycle is built. -/
def stopLinkRule (l : LinkId) (s : State) : State × Response :=
  match (s.link l).state with
  | .off => (s, answer .linkOff)
  | .stopping => (s, answer .linkBusy)
  | .running =>
    (s.setLink l { s.link l with state := .stopping, cycleTimer := none, exchangeList := [] }, answer .ok)

/-- STOP_LINK (R80). -/
def execStopLink (s : State) : Host.Outcome State Fault Refusal :=
  .next (s.grant reqStopLink supervisorOnly formByte (onLinkNumber stopLinkRule))

/-- Settings in range (R57, R82 check 1), from the fields of the settings record. -/
def settingsOf (a : Byte × Nat × Nat × Nat × Nat × Nat × BitVec 16) : Option Settings :=
  match a with
  | (rate, period, reply, retry, loss, service, scan) =>
    match bitRateOf rate with
    | some rate =>
      if 2 ≤ period ∧ period ≤ 250 ∧ 2 ≤ reply ∧ reply ≤ 200 ∧ retry ≤ 3 ∧ 1 ≤ loss ∧ loss ≤ 15 ∧ 1 ≤ service ∧
          service ≤ 4 then
        some { bitRate := rate, period := period, replyTimeout := reply, retryLimit := retry, lossLimit := loss
               serviceCalls := service, scanSet := scan }
      else none
    | none => none

/-- The current cycle period that SET_LINK compares with: the pending period if one is present (R82). -/
def LinkRecord.currentPeriod (r : LinkRecord) : Nat := r.pendingPeriod.getD r.settings.period

/-- A changed bit rate or reply timeout while the link is not OFF (R82 check 2). -/
def LinkRecord.lineSettingsBusy (r : LinkRecord) (new : Settings) : Bool :=
  r.state != .off && (new.bitRate != r.settings.bitRate || new.replyTimeout != r.settings.replyTimeout)

/-- The new period would let the hold time of a node of the link pass (R82 check 3). -/
def State.periodConflicts (s : State) (l : LinkId) (period : Nat) : Bool :=
  (entries s.nodes).any fun e =>
    onLinkSlot l e.1 && (e.2.state == .online || e.2.state == .resync || e.2.state == .describing) &&
      decide (e.2.identity.holdTime < 3 * period)

/-- The settings and pending period that an accepted SET_LINK leaves (R83). -/
def LinkRecord.applySettings (r : LinkRecord) (new : Settings) : LinkRecord :=
  if r.state = .off then { r with settings := new }
  else
    { r with
      settings := { new with period := r.settings.period }
      pendingPeriod := if new.period = r.settings.period then none else some new.period }

/-- The node is ONLINE or RESYNC on the link with a failure count at or above a loss limit (R45, R83). -/
def State.overLimit (s : State) (l : LinkId) (limit : Nat) (n : NodeSlot) : Bool :=
  s.exchangingOn l n && decide (limit ≤ (s.node n).failures)

/-- An accepted SET_LINK (R83). -/
def State.applySetLink (s : State) (l : LinkId) (new : Settings) : State :=
  (s.setLink l ((s.link l).applySettings new)).loseNodes (s.overLimit l new.lossLimit) .failed

/-- The rule of SET_LINK: a link number above 1 (ch. 3.7), then the checks of R82 in order, then R83. That BAD_REQUEST for the link number comes
before BAD_SETTING for a value out of range is the model's DESIGN CHOICE (log entry 25): the spec does not order the two. -/
def setLinkRule (_ : PortId) (a : Nat × Byte × Nat × Nat × Nat × Nat × Nat × BitVec 16) (s : State) : State × Response :=
  match linkOf a.1 with
  | none => (s, answer .badRequest)
  | some l =>
    match settingsOf a.2 with
    | none => (s, answer .badSetting)
    | some new =>
      if (s.link l).lineSettingsBusy new then (s, answer .linkRunning)
      else if new.period ≠ (s.link l).currentPeriod ∧ s.periodConflicts l new.period then (s, answer .settingConflict)
      else (s.applySetLink l new, answer .ok)

/-- SET_LINK (R82, R83). -/
def execSetLink (s : State) : Host.Outcome State Fault Refusal :=
  .next (s.grant reqSetLink supervisorOnly formSettings setLinkRule)

/-- The settings record of 8 bytes (ch. 8.2). -/
def settingsBytes (c : Settings) : List Byte :=
  [c.bitRate.code, byte c.period, byte c.replyTimeout, byte c.retryLimit, byte c.lossLimit, byte c.serviceCalls] ++
    le16 c.scanSet.toNat

/-- The result fields of LINK_STATUS (R84, ch. 8.4). -/
def linkStatusFields (r : LinkRecord) : List Byte :=
  r.state.code :: settingsBytes r.settings ++ byte (r.pendingPeriod.getD 0) :: le32 r.cycles ++ le16 r.lateCycles ++
    le16 r.failedCalls ++ le16 r.droppedService

/-- The rule of LINK_STATUS (R84). -/
def linkStatusRule (l : LinkId) (s : State) : State × Response := (s, answerOk (linkStatusFields (s.link l)))

/-- LINK_STATUS (R84). -/
def execLinkStatus (s : State) : Host.Outcome State Fault Refusal :=
  .next (s.grant reqLinkStatus anyPort formByte (onLinkNumber linkStatusRule))

end Sys2Proof.Machine
end

