-- ==== Sys2Proof/Machine/Nodes.lean ====
section
/-! DEFINITION. The node requests (ch. 2.7, 2.8): NODE_INFO, LIST_NODES, NAME_NODE, RESCAN_NODE, EXCLUDE_NODE, INCLUDE_NODE,
FORGET_NODE. -/

namespace Sys2Proof.Machine

/-- The rule of a request that takes a node slot: a slot above 31 is answered BAD_REQUEST (ch. 2.8). -/
def onNodeSlot (act : NodeSlot → State → State × Response) (_ : PortId) (n : Nat) (s : State) : State × Response :=
  if h : n < 32 then act ⟨n, h⟩ s else (s, answer .badRequest)

/-- Type text padded with spaces to 4 bytes (R167). -/
def padded (t : Text) : List Byte := (t ++ [0x20, 0x20, 0x20, 0x20]).take 4

/-- The node flags byte of NODE_INFO (ch. 8.4). -/
def nodeFlags (r : NodeRecord) : Byte :=
  byte ((if r.nodeFault then 1 else 0) + (if r.held then 2 else 0) + (if r.freshExpected then 4 else 0) +
    (if r.parkOwed then 8 else 0))

/-- The result fields of NODE_INFO (R50, ch. 8.4). -/
def nodeInfoFields (r : NodeRecord) : List Byte :=
  r.state.code :: padded r.identity.typeText ++ le32 r.identity.unitNumber ++ le32 r.identity.layoutSignature ++
    [byte r.identity.elementCount, byte r.identity.inputLength, byte r.identity.outputLength,
      byte (r.identity.holdTime / 10)] ++
    byte r.stationText.length :: r.stationText ++
    [r.incarnation, byte r.failures] ++ le16 r.retryTotal ++ [nodeFlags r, byte r.cursor] ++ le16 r.packedIn ++
    le16 r.packedOut ++ [refuseCode r.refuseReason, lostCauseCode r.lostCause]

/-- NODE_INFO (R50). -/
def execNodeInfo (s : State) : Host.Outcome State Fault Refusal :=
  .next (s.grant reqNodeInfo anyPort formByte (onNodeSlot fun n s => (s, answerOk (nodeInfoFields (s.node n)))))

/-- The rule of LIST_NODES (R51). -/
def listNodesAnswer (_ : PortId) (_ : Unit) (s : State) : Response :=
  answerOk (s.nodes.toList.map fun r => r.state.code)

/-- LIST_NODES (R51). -/
def execListNodes (s : State) : Host.Outcome State Fault Refusal :=
  .next (s.grant reqListNodes anyPort formNone (reading listNodesAnswer))

/-- The rule of NAME_NODE (R49): the checks in order, then the rename and the rekeying of the name map (R20). -/
def nameNode (_ : PortId) (a : Nat × Text) (s : State) : State × Response :=
  if h : a.1 < 32 then
    let n : NodeSlot := ⟨a.1, h⟩
    if (s.node n).state = .vacant then (s, answer .noNode)
    else if stationNameLegal a.2 = false then (s, answer .badName)
    else if s.nameTaken n a.2 then (s, answer .nameInUse)
    else if (s.node n).stationName = some a.2 then (s, answer .ok)
    else ((s.rekey n a.2).setNode n { s.node n with stationName := some a.2 }, answer .ok)
  else (s, answer .badRequest)

/-- NAME_NODE (R49). -/
def execNameNode (s : State) : Host.Outcome State Fault Refusal :=
  .next (s.grant reqNameNode supervisorOnly formByteName nameNode)

/-- The rule of RESCAN_NODE (R52). -/
def rescanNode (n : NodeSlot) (s : State) : State × Response :=
  if (s.node n).state = .refused then (s.setNode n (s.node n).vacated, answer .ok) else (s, answer .ok)

/-- RESCAN_NODE (R52). -/
def execRescanNode (s : State) : Host.Outcome State Fault Refusal :=
  .next (s.grant reqRescanNode supervisorOnly formByte (onNodeSlot rescanNode))

/-- The node is exchanging or lost: its published records are retired when it is withdrawn, and a PARK is owed (R53, R55). -/
def NodeRecord.hasPoints (r : NodeRecord) : Bool := r.state == .online || r.state == .resync || r.state == .lost

/-- What a node leaves behind when it is excluded or forgotten: reservations released, or published records retired (R12, R16). -/
def State.withdrawNode (s : State) (n : NodeSlot) : State :=
  if (s.node n).hasPoints then s.retireNode n
  else if (s.node n).state = .describing then s.releaseReservations n
  else s

/-- PARK owed after an exclude or a forget: yes from ONLINE, RESYNC and LOST, no from DESCRIBING, otherwise unchanged (R53,
R55). -/
def NodeRecord.parkOwedAfter (r : NodeRecord) : Bool :=
  if r.hasPoints then true else if r.state = .describing then false else r.parkOwed

/-- The rule of EXCLUDE_NODE (R53). -/
def excludeNode (n : NodeSlot) (s : State) : State × Response :=
  let r := s.node n
  if r.state = .parked then (s, answer .ok)
  else
    ((s.withdrawNode n).setNode n
      { r with
        state := .parked, failures := 0, lostCause := none, refuseReason := none, parkOwed := r.parkOwedAfter },
      answer .ok)

/-- EXCLUDE_NODE (R53). -/
def execExcludeNode (s : State) : Host.Outcome State Fault Refusal :=
  .next (s.grant reqExcludeNode supervisorOnly formByte (onNodeSlot excludeNode))

/-- The rule of INCLUDE_NODE (R54). -/
def includeNode (n : NodeSlot) (s : State) : State × Response :=
  if (s.node n).state = .parked then (s.setNode n (s.node n).vacated, answer .ok) else (s, answer .ok)

/-- INCLUDE_NODE (R54). -/
def execIncludeNode (s : State) : Host.Outcome State Fault Refusal :=
  .next (s.grant reqIncludeNode supervisorOnly formByte (onNodeSlot includeNode))

/-- The rule of FORGET_NODE (R55). -/
def forgetNode (n : NodeSlot) (s : State) : State × Response :=
  let r := s.node n
  if r.state = .vacant then (s, answer .noNode)
  else ((s.withdrawNode n).setNode n { r.vacated with parkOwed := r.parkOwedAfter }, answer .ok)

/-- FORGET_NODE (R55). -/
def execForgetNode (s : State) : Host.Outcome State Fault Refusal :=
  .next (s.grant reqForgetNode supervisorOnly formByte (onNodeSlot forgetNode))

end Sys2Proof.Machine
end

