-- ==== Sys2Proof/Machine/Sessions.lean ====
section
/-! DEFINITION. The port, session and device requests (ch. 7): DEVICE_INFO, OPEN_SESSION, CLOSE_SESSION, SET_ATTENTION,
RESET_DEVICE. -/

namespace Sys2Proof.Machine

/-- The capacities as they are reported (R156). -/
def capacityBytes : List Byte :=
  le16 Config.pointRecords ++
    [byte Config.nodeRecords, byte Config.leaseRecords, byte Config.hostPorts, byte Config.fieldLinks]

/-- The rule of DEVICE_INFO (R159). -/
def deviceInfoAnswer (_ : PortId) (_ : Unit) (s : State) : Response :=
  answerOk (le16 Config.vendorCode ++ le16 Config.partCode ++ byte Config.siliconRevision :: capacityBytes ++
    [s.device.code, s.supervisors.toByte])

/-- DEVICE_INFO (R159): answered in FAILED and with no session (R153). -/
def execDeviceInfo (s : State) : Host.Outcome State Fault Refusal :=
  .next (s.grant reqDeviceInfo ⟨true, false, false⟩ formNone (reading deviceInfoAnswer))

/-- A lease record belongs to a port: HELD or LAPSED with the port as holder. -/
def LeaseRecord.ofPort (r : LeaseRecord) (p : PortId) : Bool := r.state != .free && r.holder == some p

/-- The members of every lease of a port. -/
def State.membersOfPort (s : State) (p : PortId) : List DirSlot :=
  s.leases.toList.flatMap fun r => if r.ofPort p then r.members else []

/-- Steps 1 and 2 of a session close on one point record: the release of a member (R117, R124), the end of a substitution
(R105). -/
def PointRecord.closeFor (r : PointRecord) (p : PortId) (member : Bool) : PointRecord :=
  let r' := if member then r.release else r
  if r'.substPort = some p then r'.endSubstitution else r'

/-- The close of a port's session (R157): leases, substitutions, watches and marks, session. Steps 1 and 2 touch different records
(OUT and IN), and each record takes one reportable change at the close (R126). -/
def State.closeSession (s : State) (p : PortId) : State :=
  let members := s.membersOfPort p
  let s1 := s.event fun i r => r.closeFor p (members.contains i)
  let s2 := s1.mapLeases fun _ r => if r.ofPort p then r.freed else r
  let s3 := s2.updatePoints fun _ r => r.dropWatcher p
  s3.setPort p { s3.port p with markedCount := 0, scanCursor := 0, sessionOpen := false }

/-- The role code of a port (ch. 8.2). -/
def State.roleByte (s : State) (p : PortId) : Byte := flagByte (s.isSupervisor p)

/-- The rule of OPEN_SESSION (R156): an open session is closed first, then the session is OPEN and the attention mask enabled. -/
def openSession (p : PortId) (_ : Unit) (s : State) : State × Response :=
  let s1 := if (s.port p).sessionOpen then s.closeSession p else s
  (s1.setPort p { s1.port p with sessionOpen := true, marksEnabled := true, lapsesEnabled := true },
    answerOk (portByte p :: s.roleByte p :: capacityBytes))

/-- OPEN_SESSION (R156). -/
def execOpenSession (s : State) : Host.Outcome State Fault Refusal :=
  .next (s.grant reqOpenSession ⟨false, false, false⟩ formNone openSession)

/-- The rule of CLOSE_SESSION (R157). -/
def closeSessionRule (p : PortId) (_ : Unit) (s : State) : State × Response := (s.closeSession p, answer .ok)

/-- CLOSE_SESSION (R157). -/
def execCloseSession (s : State) : Host.Outcome State Fault Refusal :=
  .next (s.grant reqCloseSession anyPort formNone closeSessionRule)

/-- The rule of SET_ATTENTION (R151). -/
def setAttention (p : PortId) (a : Nat × Nat) (s : State) : State × Response :=
  if 1 < a.1 ∨ 1 < a.2 then (s, answer .badRequest)
  else
    (s.setPort p { s.port p with marksEnabled := decide (a.1 = 1), lapsesEnabled := decide (a.2 = 1) }, answer .ok)

/-- SET_ATTENTION (R151). -/
def execSetAttention (s : State) : Host.Outcome State Fault Refusal :=
  .next (s.grant reqSetAttention anyPort formTwoBytes setAttention)

/-- RESET_DEVICE (R164): answered OK and nothing else; the acknowledgement of the response triggers the reset (WINDOW_CLOSE). -/
def execResetDevice (s : State) : Host.Outcome State Fault Refusal :=
  .next (s.grant reqResetDevice supervisorOnly formNone (reading fun _ _ _ => answer .ok))

end Sys2Proof.Machine
end

