-- ==== Sys2Proof/Machine/Time.lean ====
section
/-! DEFINITION. The 1 ms tick of the time base (R71, R114): LEASE_CLOCK_TICK and LEASE_EXPIRY. -/

namespace Sys2Proof.Machine

/-- The lease expires at the next tick: it is HELD and the tick brings its remaining time to 0 (R114). -/
def LeaseRecord.expiring (r : LeaseRecord) : Bool := r.state == .held && decide (r.remaining ≤ 1)

/-- A lease record at a tick (R114, R120): a HELD lease counts down, and lapses when its remaining time reaches 0. -/
def LeaseRecord.tick (r : LeaseRecord) : LeaseRecord :=
  if r.expiring then r.lapse .expired
  else if r.state = .held then { r with remaining := r.remaining - 1 }
  else r

/-- The members of every lease that expires at the next tick. -/
def State.expiringMembers (s : State) : List DirSlot :=
  s.leases.toList.flatMap fun r => if r.expiring then r.members else []

/-- A link's cycle timer at a tick: a running timer counts down (R71). -/
def LinkRecord.tick (r : LinkRecord) : LinkRecord := { r with cycleTimer := r.cycleTimer.map fun n => n - 1 }

/-- One 1 ms tick of the time base: the lease clock acts on every lease, the expiring ones lapse at this tick, and the cycle timers
count (R71, R114, R120). -/
def State.clockTick (s : State) : State :=
  let s1 := (s.releaseMembers s.expiringMembers).mapLeases fun _ r => r.tick
  (s1.setLink .l0 (s1.link .l0).tick).setLink .l1 (s1.link .l1).tick

/-- LEASE_CLOCK_TICK (R114). -/
def execLeaseClockTick (s : State) : Host.Outcome State Fault Refusal := .next s.clockTick

/-- LEASE_EXPIRY (R114, R120): the tick at which the lease at this index expires. The expiry is part of its tick ("it lapses at that
tick"), so this step is that tick; it cannot occur while the lease is not about to expire (log entries 1 and 5). -/
def execLeaseExpiry (index : Nat) (s : State) : Host.Outcome State Fault Refusal :=
  .next (if h : index < 64 then
    if (s.leaseAt ⟨index, h⟩).expiring then s.clockTick else s
  else s)

end Sys2Proof.Machine
end

