-- ==== Sys2Proof/Machine/Values.lean ====
section
/-! DEFINITION. The value requests (ch. 4.5 to 4.8): READ, WRITE, SET_SAFE, SUBSTITUTE, UNSUBSTITUTE. -/

namespace Sys2Proof.Machine

/-- The pending indicator of READ: 0 not pending, 1 pending with applied present, 2 applied absent (R97). -/
def pendingIndicator (r : PointRecord) : Byte :=
  match r.direction with
  | .inp => 0
  | .out => if r.applied = none then 2 else if r.pending then 1 else 0

/-- The value a READ entry reports first: value of an IN point, demand of an OUT point (R97). -/
def readValue (r : PointRecord) : Word32 :=
  match r.direction with
  | .inp => r.value
  | .out => r.demand

/-- The second value of a READ entry: field value, or applied with 0 for absent (R97). -/
def readSecond (r : PointRecord) : Word32 :=
  match r.direction with
  | .inp => r.fieldValue
  | .out => r.applied.getD 0

/-- A READ entry of an accepted handle (R97, ch. 8.4). -/
def readFields (r : PointRecord) : List Byte :=
  Result.ok.code :: le32 (readValue r) ++ r.quality.code :: le16 r.revision.toNat ++ le32 (readSecond r) ++
    [pendingIndicator r]

/-- A READ entry: of a refused handle every other field is 0 (R97, R167). -/
def readEntry (s : State) (h : Nat) : List Byte :=
  match s.checkHandle false h with
  | .refused e => e.code :: List.replicate 12 0
  | .accepted i => readFields (s.point i)

/-- The rule of READ (R97). -/
def readAnswer (_ : PortId) (hs : List Nat) (s : State) : Response :=
  if countIn 4 hs.length then answerOk (byte hs.length :: hs.flatMap (readEntry s)) else answer .badRequest

/-- READ (R97). -/
def execRead (s : State) : Host.Outcome State Fault Refusal :=
  .next (s.grant reqRead anyPort formHandles (reading readAnswer))

/-- The demand a list of pairs leaves a point with: the value of its last pair, or what it was (R99). -/
def demandAfter (pairs : List (DirSlot × Word32)) (i : DirSlot) (v : Word32) : Word32 :=
  pairs.foldl (fun d e => if e.1 = i then e.2 else d) v

/-- A WRITE that has passed its checks: each point named takes the value of its last pair, and its pending is recomputed (R99). -/
def State.writeDemands (s : State) (pairs : List (DirSlot × Word32)) : State :=
  s.event fun i r => if pairs.any (fun e => e.1 == i) then r.setDemand (demandAfter pairs i r.demand) else r

/-- Every point has the node slot of the first one (R98). -/
def State.oneNode (s : State) : List DirSlot → Bool
  | [] => true
  | i :: rest => rest.all fun j => (s.point j).nodeSlot == (s.point i).nodeSlot

/-- The node of the first point is ONLINE or RESYNC (R98). -/
def State.nodeExchanging (s : State) : List DirSlot → Bool
  | [] => false
  | i :: _ => (s.node (s.point i).nodeSlot).state == .online || (s.node (s.point i).nodeSlot).state == .resync

/-- The rule of WRITE: the eight checks of R98 in order, each over all the pairs, then R99. -/
def writePoints (p : PortId) (a : (Nat × Nat) × List (Nat × Word32)) (s : State) : State × Response :=
  if countIn 8 a.2.length = false then (s, answer .badRequest)
  else
    match s.leaseHeldBy p a.1 with
    | none => (s, answer .badLease)
    | some k =>
      if (s.leaseAt k).state = .lapsed then (s, answer .lapsed)
      else
        match s.checkHandles (a.2.map Prod.fst) with
        | .refused e => (s, answer e)
        | .accepted slots =>
          let pairs := slots.zip (a.2.map Prod.snd)
          if slots.any (fun i => (s.point i).direction == .inp) then (s, answer .wrongDirection)
          else if slots.any (fun i => (s.point i).lease != some k) then (s, answer .notHeld)
          else if s.oneNode slots = false then (s, answer .mixedNodes)
          else if s.nodeExchanging slots = false then (s, answer .notOnline)
          else if pairs.any (fun e => !(s.point e.1).inRange e.2) then (s, answer .range)
          else (s.writeDemands pairs, answer .ok)

/-- WRITE (R98, R99). -/
def execWrite (s : State) : Host.Outcome State Fault Refusal :=
  .next (s.grant reqWrite anyPort formWrite writePoints)

/-- A record with a new safe value (R101). -/
def PointRecord.setSafe (r : PointRecord) (v : Word32) : PointRecord := { r with safeValue := v }

/-- The rule of SET_SAFE: the six checks of R101 in order. -/
def setSafePoint (p : PortId) (a : (Nat × Nat) × Nat × Word32) (s : State) : State × Response :=
  match s.leaseHeldBy p a.1 with
  | none => (s, answer .badLease)
  | some k =>
    if (s.leaseAt k).state = .lapsed then (s, answer .lapsed)
    else
      match s.checkHandle false a.2.1 with
      | .refused e => (s, answer e)
      | .accepted i =>
        if (s.point i).direction = .inp then (s, answer .wrongDirection)
        else if (s.point i).lease ≠ some k then (s, answer .notHeld)
        else if (s.point i).inRange a.2.2 = false then (s, answer .range)
        else (s.event fun j r => if j = i then r.setSafe a.2.2 else r, answer .ok)

/-- SET_SAFE (R101). -/
def execSetSafe (s : State) : Host.Outcome State Fault Refusal :=
  .next (s.grant reqSetSafe anyPort formLeaseHandleValue setSafePoint)

/-- A record with a substitute set by a port (R102). -/
def PointRecord.substituteBy (r : PointRecord) (p : PortId) (v : Word32) : PointRecord :=
  { r with value := v, quality := .substituted, substPort := some p }

/-- The rule of SUBSTITUTE (R102). -/
def substitutePoint (p : PortId) (a : Nat × Word32) (s : State) : State × Response :=
  match s.checkHandle false a.1 with
  | .refused e => (s, answer e)
  | .accepted i =>
    if (s.point i).direction = .out then (s, answer .wrongDirection)
    else if (s.point i).inRange a.2 = false then (s, answer .range)
    else (s.event fun j r => if j = i then r.substituteBy p a.2 else r, answer .ok)

/-- SUBSTITUTE (R102). -/
def execSubstitute (s : State) : Host.Outcome State Fault Refusal :=
  .next (s.grant reqSubstitute supervisorOnly formHandleValue substitutePoint)

/-- The rule of UNSUBSTITUTE (R104). -/
def unsubstitutePoint (_ : PortId) (h : Nat) (s : State) : State × Response :=
  match s.checkHandle false h with
  | .refused e => (s, answer e)
  | .accepted i =>
    if (s.point i).direction = .out then (s, answer .wrongDirection)
    else if (s.point i).substPort = none then (s, answer .ok)
    else (s.event fun j r => if j = i then r.endSubstitution else r, answer .ok)

/-- UNSUBSTITUTE (R104). -/
def execUnsubstitute (s : State) : Host.Outcome State Fault Refusal :=
  .next (s.grant reqUnsubstitute supervisorOnly formWord unsubstitutePoint)

end Sys2Proof.Machine
end

