-- ==== Sys2Proof/Machine/Leases.lean ====
section
/-! DEFINITION. The lease requests (ch. 5): OPEN_LEASE, CLAIM, RELEASE, RENEW, CLOSE_LEASE, REVOKE, LEASE_INFO. -/

namespace Sys2Proof.Machine

/-- The lowest FREE lease record (R111). -/
def State.freeLease (s : State) : Option LeaseIndex := lowest (fun r : LeaseRecord => r.state == .free) s.leases

/-- A lease record at its opening (R106, R111). -/
def LeaseRecord.opened (r : LeaseRecord) (p : PortId) (term : Nat) : LeaseRecord :=
  { state := .held, serial := nextSerial r.serial, holder := some p, term := term, remaining := term, members := []
    lostMembers := 0, cause := none }

/-- The wire form of a lease handle: index, then serial (ch. 8.2). -/
def leaseHandleBytes (k : LeaseIndex) (serial : Nat) : List Byte := [byte k.val, byte serial]

/-- The rule of OPEN_LEASE (R111). -/
def openLease (p : PortId) (term : Nat) (s : State) : State × Response :=
  if term < 20 ∨ 60000 < term then (s, answer .badSetting)
  else
    match s.freeLease with
    | none => (s, answer .noLease)
    | some k =>
      let r := (s.leaseAt k).opened p term
      (s.setLease k r, answerOk (leaseHandleBytes k r.serial))

/-- OPEN_LEASE (R111). -/
def execOpenLease (s : State) : Host.Outcome State Fault Refusal :=
  .next (s.grant reqOpenLease anyPort formWord openLease)

/-- A member list after some points have joined in request order: a point already in the list stays where it is (R113). -/
def joined (members : List DirSlot) : List DirSlot → List DirSlot
  | [] => members
  | i :: rest => joined (if members.contains i then members else members ++ [i]) rest

/-- A CLAIM that has passed its checks (R113). -/
def State.claimPoints (s : State) (k : LeaseIndex) (slots : List DirSlot) : State :=
  (s.event fun i r => if slots.contains i then { r with lease := some k } else r).setLease k
    { s.leaseAt k with members := joined (s.leaseAt k).members slots }

/-- The holder port a lease reports. -/
def LeaseRecord.holderByte (r : LeaseRecord) : Byte :=
  match r.holder with
  | some p => portByte p
  | none => 0

/-- A point is a member of a lease other than the one named (R112). -/
def PointRecord.heldElsewhere (r : PointRecord) (k : LeaseIndex) : Bool := r.lease != none && r.lease != some k

/-- The response HELD_ELSEWHERE names the first conflicting point and the holder port of its lease (R112, R154). -/
def State.heldElsewhere (s : State) (i : DirSlot) : Response :=
  ⟨.heldElsewhere, le16 (handleOf i (s.point i)) ++
    [match (s.point i).lease with
      | some k => (s.leaseAt k).holderByte
      | none => 0]⟩

/-- The rule of CLAIM: the six checks of R112 in order, then R113. -/
def claimLease (p : PortId) (a : (Nat × Nat) × List Nat) (s : State) : State × Response :=
  if countIn 8 a.2.length = false then (s, answer .badRequest)
  else
    match s.leaseHeldBy p a.1 with
    | none => (s, answer .badLease)
    | some k =>
      if (s.leaseAt k).state = .lapsed then (s, answer .lapsed)
      else
        match s.checkHandles a.2 with
        | .refused e => (s, answer e)
        | .accepted slots =>
          if slots.any (fun i => (s.point i).direction == .inp) then (s, answer .wrongDirection)
          else
            match slots.find? fun i => (s.point i).heldElsewhere k with
            | some i => (s, s.heldElsewhere i)
            | none =>
              if Config.membersPerLease < (joined (s.leaseAt k).members slots).length then (s, answer .leaseFull)
              else (s.claimPoints k slots, answer .ok)

/-- CLAIM (R112, R113). -/
def execClaim (s : State) : Host.Outcome State Fault Refusal :=
  .next (s.grant reqClaim anyPort formLeaseHandles claimLease)

/-- The entries of a RELEASE taken in order: each one's result, and the members it releases. `left` is what is left of the member
list (R118). -/
def releaseEntries (s : State) (left : List DirSlot) : List Nat → List Result × List DirSlot
  | [] => ([], [])
  | h :: rest =>
    match s.checkHandle false h with
    | .refused e =>
      let out := releaseEntries s left rest
      (e :: out.1, out.2)
    | .accepted i =>
      if left.contains i then
        let out := releaseEntries s (left.filter fun j => j != i) rest
        (.ok :: out.1, i :: out.2)
      else
        let out := releaseEntries s left rest
        (.notHeld :: out.1, out.2)

/-- Some members leave a lease by the step of R117: the others keep their order. -/
def State.releaseFrom (s : State) (k : LeaseIndex) (gone : List DirSlot) : State :=
  (s.releaseMembers gone).setLease k
    { s.leaseAt k with members := (s.leaseAt k).members.filter fun i => !gone.contains i }

/-- Per-entry results after their count (ch. 8.4). -/
def entryResults (rs : List Result) : List Byte := byte rs.length :: rs.map Result.code

/-- The rule of RELEASE (R118). -/
def releaseLease (p : PortId) (a : (Nat × Nat) × List Nat) (s : State) : State × Response :=
  if countIn 8 a.2.length = false then (s, answer .badRequest)
  else
    match s.leaseHeldBy p a.1 with
    | none => (s, answer .badLease)
    | some k =>
      let out := releaseEntries s (s.leaseAt k).members a.2
      (s.releaseFrom k out.2, answerOk (entryResults out.1))

/-- RELEASE (R118). -/
def execRelease (s : State) : Host.Outcome State Fault Refusal :=
  .next (s.grant reqRelease anyPort formLeaseHandles releaseLease)

/-- The rule of RENEW (R115). -/
def renewLease (p : PortId) (h : Nat × Nat) (s : State) : State × Response :=
  match s.leaseHeldBy p h with
  | none => (s, answer .badLease)
  | some k =>
    let r := s.leaseAt k
    if r.state = .lapsed then (s, answer .lapsed)
    else (s.setLease k { r with remaining := r.term, lostMembers := 0 }, answerOk [byte r.lostMembers])

/-- RENEW (R115). -/
def execRenew (s : State) : Host.Outcome State Fault Refusal :=
  .next (s.grant reqRenew anyPort formLease renewLease)

/-- A lease is closed: its members are released, and the record is FREE (R119). -/
def State.closeLease (s : State) (k : LeaseIndex) : State :=
  (s.releaseMembers (s.leaseAt k).members).setLease k (s.leaseAt k).freed

/-- The rule of CLOSE_LEASE (R119). -/
def closeLeaseRule (p : PortId) (h : Nat × Nat) (s : State) : State × Response :=
  match s.leaseHeldBy p h with
  | none => (s, answer .badLease)
  | some k => (s.closeLease k, answer .ok)

/-- CLOSE_LEASE (R119). -/
def execCloseLease (s : State) : Host.Outcome State Fault Refusal :=
  .next (s.grant reqCloseLease anyPort formLease closeLeaseRule)

/-- The rule of REVOKE (R121). -/
def revokeLease (_ : PortId) (h : Nat × Nat) (s : State) : State × Response :=
  match s.leaseNamed h with
  | none => (s, answer .badLease)
  | some k =>
    if (s.leaseAt k).state = .lapsed then (s, answer .lapsed) else (s.lapse k .revoked, answer .ok)

/-- REVOKE (R121). -/
def execRevoke (s : State) : Host.Outcome State Fault Refusal :=
  .next (s.grant reqRevoke supervisorOnly formLease revokeLease)

/-- The result fields of LEASE_INFO (R125, ch. 8.4). -/
def State.leaseInfoFields (s : State) (r : LeaseRecord) (first : Nat) : List Byte :=
  let shown := (r.members.drop first).take 16
  [r.state.code, r.holderByte] ++ le16 r.term ++ le16 r.remaining ++
    [byte r.lostMembers, lapseCauseCode r.cause, byte r.members.length, byte first, byte shown.length] ++
    shown.flatMap fun i => le16 (handleOf i (s.point i))

/-- The rule of LEASE_INFO (R125). -/
def leaseInfoAnswer (p : PortId) (a : (Nat × Nat) × Nat) (s : State) : Response :=
  if 31 < a.2 then answer .badRequest
  else
    match s.leaseNamed a.1 with
    | none => answer .badLease
    | some k =>
      if (s.leaseAt k).holder ≠ some p ∧ s.isSupervisor p = false then answer .notPermitted
      else answerOk (s.leaseInfoFields (s.leaseAt k) a.2)

/-- LEASE_INFO (R125). -/
def execLeaseInfo (s : State) : Host.Outcome State Fault Refusal :=
  .next (s.grant reqLeaseInfo anyPort formLeaseByte (reading leaseInfoAnswer))

end Sys2Proof.Machine
end

