-- ==== Sys2Proof/Machine/Watches.lean ====
section
/-! DEFINITION. The watch requests (ch. 6): WATCH, UNWATCH, SET_DEADBAND, NEXT_CHANGES, ACK_CHANGES. -/

namespace Sys2Proof.Machine

/-- One directory record is replaced, with no reportable change. -/
def State.updatePoint (s : State) (i : DirSlot) (f : PointRecord → PointRecord) : State :=
  s.updatePoints fun j r => if j = i then f r else r

/-- Entries of a request taken in turn within the grant, each on the state the earlier ones left. -/
def eachEntry {α : Type} (act : State → α → State × Result) (s : State) : List α → State × List Result
  | [] => (s, [])
  | a :: rest =>
    let one := act s a
    let more := eachEntry act one.1 rest
    (more.1, one.2 :: more.2)

/-- The rule of a request with 1 to 8 entries and one result each. -/
def entriesRequest {α : Type} (act : PortId → State → α → State × Result) (p : PortId) (as : List α) (s : State) :
    State × Response :=
  if countIn 8 as.length = false then (s, answer .badRequest)
  else
    let out := eachEntry (act p) s as
    (out.1, answerOk (entryResults out.2))

/-- A port joins a record's watch set and mark set (R131). -/
def PointRecord.watchedBy (r : PointRecord) (p : PortId) : PointRecord :=
  { r with watch := r.watch.add p, mark := r.mark.add p }

/-- One entry of WATCH (R131). -/
def watchEntry (p : PortId) (s : State) (h : Nat) : State × Result :=
  match s.checkHandle false h with
  | .refused e => (s, e)
  | .accepted i => (s.updatePoint i fun r => r.watchedBy p, .ok)

/-- WATCH (R131). -/
def execWatch (s : State) : Host.Outcome State Fault Refusal :=
  .next (s.grant reqWatch anyPort formHandles (entriesRequest watchEntry))

/-- One entry of UNWATCH (R132). -/
def unwatchEntry (p : PortId) (s : State) (h : Nat) : State × Result :=
  match s.checkHandle true h with
  | .refused e => (s, e)
  | .accepted i => (s.updatePoint i fun r => r.dropWatcher p, .ok)

/-- UNWATCH (R132). -/
def execUnwatch (s : State) : Host.Outcome State Fault Refusal :=
  .next (s.grant reqUnwatch anyPort formHandles (entriesRequest unwatchEntry))

/-- The rule of SET_DEADBAND (R133). -/
def setDeadband (_ : PortId) (a : Nat × Nat) (s : State) : State × Response :=
  match s.checkHandle false a.1 with
  | .refused e => (s, answer e)
  | .accepted i =>
    if (s.point i).direction = .out then (s, answer .wrongDirection)
    else if (s.point i).kind = .flag ∨ (s.point i).kind = .bits then (s, answer .badRequest)
    else (s.updatePoint i fun r => { r with deadband := a.2, markRef := r.value }, answer .ok)

/-- SET_DEADBAND (R133). -/
def execSetDeadband (s : State) : Host.Outcome State Fault Refusal :=
  .next (s.grant reqSetDeadband anyPort formHandleWord setDeadband)

/-- The records in the order a scan examines them: from the cursor to slot 511, then from slot 0 to just before the cursor
(R134). -/
def State.scanOrder (s : State) (cursor : DirSlot) : List (DirSlot × PointRecord) :=
  (entries s.points).drop cursor.val ++ (entries s.points).take cursor.val

/-- The first five records marked for a port, in scan order (R134). -/
def State.nextMarked (s : State) (p : PortId) : List (DirSlot × PointRecord) :=
  ((s.scanOrder (s.port p).scanCursor).filter fun e => e.2.mark.has p).take 5

/-- The scan cursor after a scan: one past the last selected record, with 512 written as 0 (R134). -/
def cursorAfter (old : DirSlot) (selected : List (DirSlot × PointRecord)) : DirSlot :=
  match selected.getLast? with
  | some e => ⟨(e.1.val + 1) % 512, by omega⟩
  | none => old

/-- The value a NEXT_CHANGES entry reports: value of an IN point, applied of an OUT point (R135, ch. 8.4). That this holds of a RETIRED OUT
record too, of which R110 says that its demand is reported, is the model's DESIGN CHOICE (log entry 28): the two rules disagree. -/
def changeValue (r : PointRecord) : Word32 :=
  match r.direction with
  | .inp => r.value
  | .out => r.applied.getD 0

/-- The absent indicator of a NEXT_CHANGES entry (R135). -/
def absentIndicator (r : PointRecord) : Byte := flagByte (r.direction == .out && r.applied == none)

/-- One entry of NEXT_CHANGES (R135, ch. 8.4). -/
def changeEntry (e : DirSlot × PointRecord) : List Byte :=
  le16 (handleOf e.1 e.2) ++ e.2.state.code :: le32 (changeValue e.2) ++ [absentIndicator e.2, e.2.quality.code] ++
    le16 e.2.revision.toNat

/-- The rule of NEXT_CHANGES (R134, R135). -/
def nextChanges (p : PortId) (_ : Unit) (s : State) : State × Response :=
  let sel := s.nextMarked p
  (s.setPort p { s.port p with scanCursor := cursorAfter (s.port p).scanCursor sel },
    answerOk (le16 (s.port p).markedCount ++ byte sel.length :: sel.flatMap changeEntry))

/-- NEXT_CHANGES (R134). -/
def execNextChanges (s : State) : Host.Outcome State Fault Refusal :=
  .next (s.grant reqNextChanges anyPort formNone nextChanges)

/-- A record whose current revision a port has acknowledged: the mark is removed, and a RETIRED record loses the watch too and
passes to FREE with its last mark (R17, R18, R136). -/
def PointRecord.acknowledgedBy (r : PointRecord) (p : PortId) : PointRecord :=
  if r.state = .retired then r.dropWatcher p else { r with mark := r.mark.drop p }

/-- One entry of ACK_CHANGES (R136). -/
def ackEntry (p : PortId) (s : State) (a : Nat × BitVec 16) : State × Result :=
  match s.checkHandle true a.1 with
  | .refused e => (s, e)
  | .accepted i =>
    if (s.point i).mark.has p = false then (s, .ok)
    else if (s.point i).revision = a.2 then (s.updatePoint i fun r => r.acknowledgedBy p, .ok)
    else (s, .changed)

/-- ACK_CHANGES (R136). -/
def execAckChanges (s : State) : Host.Outcome State Fault Refusal :=
  .next (s.grant reqAckChanges anyPort formRevisions (entriesRequest ackEntry))

end Sys2Proof.Machine
end

