-- ==== Sys2Proof/Machine/Spi.lean ====
section
/-! DEFINITION. The bits of a window on an SPI port (R141): mode 0, most significant bit first in both directions. SDIn is sampled at each
rising edge of SCKn, and SDOn changes at each falling edge. -/

namespace Sys2Proof.Machine

/-- The bits of a byte in the order they are shifted: most significant first (R141). -/
def spiBits (b : Byte) : List Bool :=
  [b.getLsbD 7, b.getLsbD 6, b.getLsbD 5, b.getLsbD 4, b.getLsbD 3, b.getLsbD 2, b.getLsbD 1, b.getLsbD 0]

/-- The bytes clocked in: each eight sampled levels are one, most significant bit first, and levels after the last complete byte are
discarded (R141). -/
def clockedBytes : List Bool → List Byte
  | b7 :: b6 :: b5 :: b4 :: b3 :: b2 :: b1 :: b0 :: rest => byteOfBits [b0, b1, b2, b3, b4, b5, b6, b7] :: clockedBytes rest
  | _ => []

/-- The bytes the port shifts out in a window of n bytes: the outgoing frame followed by 0xFF, or 0xFF alone while windows are not
served (R141, R167). -/
def windowOutput (w : Window) (n : Nat) : List Byte :=
  match w with
  | .unserved => List.replicate n 0xFF
  | .served out => (out.frame ++ List.replicate n 0xFF).take n

/-- The level of SDOn once SCKn has fallen `falls` times in the window, which the host samples at the next rising edge (R141). The high
level of a byte 0xFF is the level of a window that is not served. -/
def Window.sdoLevel (w : Window) (falls : Nat) : Bool :=
  ((windowOutput w (falls / 8 + 1)).flatMap spiBits).getD falls true

/-- SDOn of a port: driven while CSn is low (ch. 7.1), from the window in progress. -/
def PortRecord.sdoLevel (r : PortRecord) (falls : Nat) : Option Bool := r.window.map fun w => w.sdoLevel falls

end Sys2Proof.Machine
end

