-- ==== Sys2Proof/Machine/Windows.lean ====
section
/-! DEFINITION. Reset, the check, and the windows of the host ports: RESET, RESET_END, CHECK_END, WINDOW_OPEN, WINDOW_CLOSE. -/

namespace Sys2Proof.Machine

/-! ## Reset and check (ch. 7.8) -/

/-- A port at a reset: its reset values. A window in progress is abandoned: no frame of it is accepted or disposed of, and it stays without
service till CSn rises, with SDOn high (R141, R160). -/
def PortRecord.abandoned (r : PortRecord) : PortRecord := { PortRecord.reset with window := r.window.map fun _ => .unserved }

/-- Every block at its reset value (R160). The queue of waiting commands is not of the part, and the sampled SUPSEL levels stand until the
end of the reset samples them anew. -/
def State.resetBlocks (s : State) : State :=
  { State.reset with
    supsel1 := s.supsel1, supsel0 := s.supsel0, port0 := s.port0.abandoned, port1 := s.port1.abandoned
    port2 := s.port2.abandoned, pending := s.pending }

/-- The end of a reset: SUPSEL is sampled and the part enters CHECKING (R155, R160). What the record stores hold while the test patterns of R161
are in them, the spec does not say; that they stay at their reset values until CHECK_END is the model's DESIGN CHOICE (log entry 30). -/
def State.enterChecking (s : State) (supsel1 supsel0 : Bool) : State :=
  { s with
    device := .checking, supsel1 := supsel1, supsel0 := supsel0, supervisors := supervisorsOf supsel1 supsel0 }

/-- RESET (R160): the reset begins, and the part stays in it. -/
def execReset (s : State) : Host.Outcome State Fault Refusal := .next s.resetBlocks

/-- RESET_END (R155, R160). It comes only while the part is in reset (log entry 1). -/
def execResetEnd (supsel1 supsel0 : Bool) (s : State) : Host.Outcome State Fault Refusal :=
  .next (if s.device = .resetHeld then s.enterChecking supsel1 supsel0 else s)

/-- The record stores set again to their reset values at the end of the test: point, node and lease records, link settings,
slots (R161). -/
def State.resetStores (s : State) : State :=
  { s with
    points := State.reset.points, nameMap := [], nodes := State.reset.nodes, leases := State.reset.leases
    link0 := LinkRecord.reset, link1 := LinkRecord.reset
    port0 := { s.port0 with slots := [] }
    port1 := { s.port1 with slots := [] }
    port2 := { s.port2 with slots := [] } }

/-- CHECK_END (R161): READY after a passed test, FAILED after a failed one. -/
def execCheckEnd (passed : Bool) (s : State) : Host.Outcome State Fault Refusal :=
  .next (if s.device = .checking then { s.resetStores with device := if passed then .ready else .failed } else s)

/-- The reset of an acknowledged RESET_DEVICE: it lasts for the trigger event only, so the SUPSEL levels of that event are sampled and
CHECKING is entered at it (R155, R160, R164; log entry 4). -/
def State.deviceReset (s : State) (supsel1 supsel0 : Bool) : State := s.resetBlocks.enterChecking supsel1 supsel0

/-! ## The host frame of a window (R142) -/

/-- What the host's bytes of a window are. -/
inductive HostFrame where
  | noFrame
  | frameError
  | wellFormed (tag code : Byte) (params : List Byte)
deriving DecidableEq, Repr

/-- The judgement of the host's bytes at the window's close (R142, R168). -/
def judgeFrame (bytes : List Byte) : HostFrame :=
  match bytes with
  | [] => .noFrame
  | len :: _ =>
    if len.toNat = 0 then .noFrame
    else if len.toNat < 4 ∨ 64 < len.toNat ∨ bytes.length < len.toNat then .frameError
    else
      let body := bytes.take (len.toNat - 1)
      if bytes[len.toNat - 1]? = some (crc8 body) then
        match body with
        | _ :: tag :: code :: params => .wellFormed tag code params
        | _ => .frameError
      else .frameError

/-- A frame is a POLL in the sense of R142: length 4 and request code POLL. -/
def isPoll (code : Byte) (params : List Byte) : Bool := code == reqPoll && params.isEmpty

/-! ## Windows (ch. 7.2, 7.3) -/

/-- WINDOW_OPEN (R141, R143): the outgoing frame is fixed at the falling edge of CSn. A port whose window is open has no such edge
(log entry 1). -/
def execWindowOpen (p : PortId) (s : State) : Host.Outcome State Fault Refusal :=
  let r := s.port p
  .next (if r.window.isSome then s
    else s.setPort p { r with window := some (if s.serving then .served (s.outFrame p) else .unserved) })

/-- The outgoing frame is acknowledged: the host's frame was well-formed and every byte of the outgoing frame was clocked
(R145). -/
def acknowledged (out : OutFrame) (bytes : List Byte) : Bool :=
  match judgeFrame bytes with
  | .wellFormed _ _ _ => decide (out.frame.length ≤ bytes.length)
  | _ => false

/-- Disposal (R145): an acknowledged frame clears the notices it reported, and an acknowledged response leaves its slot. -/
def PortRecord.dispose (r : PortRecord) (out : OutFrame) (bytes : List Byte) : PortRecord :=
  if acknowledged out bytes then
    { r with
      slots := if out.isResponse then r.slots.drop 1 else r.slots
      frameError := r.frameError && !out.frameErrorShown
      overrun := r.overrun && !out.overrunShown }
  else r

/-- Acceptance (R146): a POLL takes no slot, any other well-formed frame takes a FREE one or sets OVERRUN, a frame error sets
FRAME_ERROR. -/
def PortRecord.accept (r : PortRecord) (bytes : List Byte) : PortRecord :=
  match judgeFrame bytes with
  | .noFrame => r
  | .frameError => { r with frameError := true }
  | .wellFormed tag code params =>
    if isPoll code params then r
    else if r.slots.length < Config.slotsPerPort then
      { r with slots := r.slots ++ [{ tag := tag, code := code, params := params, response := none }] }
    else { r with overrun := true }

/-- The head slot holds the OK response of a RESET_DEVICE (R164). -/
def PortRecord.headIsReset (r : PortRecord) : Bool :=
  match r.slots with
  | e :: _ => e.code == reqResetDevice && e.response == some ⟨.ok, []⟩
  | [] => false

/-- The close of the window acknowledges the response of a RESET_DEVICE (R145, R164). -/
def PortRecord.triggersReset (r : PortRecord) (out : OutFrame) (bytes : List Byte) : Bool :=
  out.isResponse && r.headIsReset && acknowledged out bytes

/-- WINDOW_CLOSE (R141, R142, R145, R146, R164), on the complete bytes clocked in. A close of a window that is not served has no effect but
to end it. A port with no window in progress has nothing to close (log entry 1). -/
def execWindowClose (p : PortId) (edge : CloseEdge) (s : State) : Host.Outcome State Fault Refusal :=
  let r := s.port p
  .next (match r.window with
    | none => s
    | some .unserved => s.setPort p { r with window := none }
    | some (.served out) =>
      let bytes := clockedBytes edge.sdi
      if r.triggersReset out bytes then (s.setPort p { r with window := none }).deviceReset edge.supsel1 edge.supsel0
      else s.setPort p { (r.dispose out bytes).accept bytes with window := none })

end Sys2Proof.Machine
end

