-- ==== Sys2Proof/Machine/Dispatch.lean ====
section
/-! DEFINITION. The dispatch of a command to its meaning: one arm per row of spec/opcode_table.json. -/

namespace Sys2Proof.Machine

/-- What a command does to everything but the queue of waiting commands. -/
def exec (i : Instr) (s : State) : Host.Outcome State Fault Refusal :=
  match i with
  | .reset => Sys2Proof.Machine.execReset s
  | .resetEnd supsel1 supsel0 => Sys2Proof.Machine.execResetEnd supsel1 supsel0 s
  | .checkEnd passed => Sys2Proof.Machine.execCheckEnd passed s
  | .windowOpen port => Sys2Proof.Machine.execWindowOpen port s
  | .windowClose port edge => Sys2Proof.Machine.execWindowClose port edge s
  | .pollRequest => Sys2Proof.Machine.execPollRequest s
  | .unknownRequest => Sys2Proof.Machine.execUnknownRequest s
  | .lookup => Sys2Proof.Machine.execLookup s
  | .listPoints => Sys2Proof.Machine.execListPoints s
  | .describePoint => Sys2Proof.Machine.execDescribePoint s
  | .pointSummary => Sys2Proof.Machine.execPointSummary s
  | .nodeInfo => Sys2Proof.Machine.execNodeInfo s
  | .listNodes => Sys2Proof.Machine.execListNodes s
  | .nameNode => Sys2Proof.Machine.execNameNode s
  | .rescanNode => Sys2Proof.Machine.execRescanNode s
  | .excludeNode => Sys2Proof.Machine.execExcludeNode s
  | .includeNode => Sys2Proof.Machine.execIncludeNode s
  | .forgetNode => Sys2Proof.Machine.execForgetNode s
  | .startLink => Sys2Proof.Machine.execStartLink s
  | .stopLink => Sys2Proof.Machine.execStopLink s
  | .setLink => Sys2Proof.Machine.execSetLink s
  | .linkStatus => Sys2Proof.Machine.execLinkStatus s
  | .read => Sys2Proof.Machine.execRead s
  | .write => Sys2Proof.Machine.execWrite s
  | .setSafe => Sys2Proof.Machine.execSetSafe s
  | .substitute => Sys2Proof.Machine.execSubstitute s
  | .unsubstitute => Sys2Proof.Machine.execUnsubstitute s
  | .openLease => Sys2Proof.Machine.execOpenLease s
  | .claim => Sys2Proof.Machine.execClaim s
  | .release => Sys2Proof.Machine.execRelease s
  | .renew => Sys2Proof.Machine.execRenew s
  | .closeLease => Sys2Proof.Machine.execCloseLease s
  | .revoke => Sys2Proof.Machine.execRevoke s
  | .leaseInfo => Sys2Proof.Machine.execLeaseInfo s
  | .watch => Sys2Proof.Machine.execWatch s
  | .unwatch => Sys2Proof.Machine.execUnwatch s
  | .setDeadband => Sys2Proof.Machine.execSetDeadband s
  | .nextChanges => Sys2Proof.Machine.execNextChanges s
  | .ackChanges => Sys2Proof.Machine.execAckChanges s
  | .deviceInfo => Sys2Proof.Machine.execDeviceInfo s
  | .openSession => Sys2Proof.Machine.execOpenSession s
  | .closeSession => Sys2Proof.Machine.execCloseSession s
  | .setAttention => Sys2Proof.Machine.execSetAttention s
  | .resetDevice => Sys2Proof.Machine.execResetDevice s
  | .leaseClockTick => Sys2Proof.Machine.execLeaseClockTick s
  | .leaseExpiry index => Sys2Proof.Machine.execLeaseExpiry index s
  | .cycleTimerExpiry link => Sys2Proof.Machine.execCycleTimerExpiry link s
  | .callBuild link => Sys2Proof.Machine.execCallBuild link s
  | .attemptRetry link => Sys2Proof.Machine.execAttemptRetry link s
  | .answerReceived link frame => Sys2Proof.Machine.execAnswerReceived link frame s
  | .replyTimeout link => Sys2Proof.Machine.execReplyTimeout link s
  | .answerBadLength link length => Sys2Proof.Machine.execAnswerBadLength link length s
  | .answerTruncated link => Sys2Proof.Machine.execAnswerTruncated link s
  | .framingFault link => Sys2Proof.Machine.execFramingFault link s
  | .broadcastParkCompletion link => Sys2Proof.Machine.execBroadcastParkCompletion link s

end Sys2Proof.Machine
end

