-- ==== Sys2Proof/Machine/Line.lean ====
section
/-! DEFINITION. The characters on a field line (R59, R61, R65): what TXDn and TXENn show of a call, when the receiver is on, and which command
the levels on RXDn amount to. Levels are taken once a bit time, counted from the start of the attempt in progress (log entry 27). The
commands of the line carry what this file says was received; none of them reads it. -/

namespace Sys2Proof.Machine

/-! ## Characters -/

/-- The character of a byte: one start bit at the low level, eight data bits, least significant first, one stop bit at the high level
(R59). -/
def character (b : Byte) : List Bool :=
  [false, b.getLsbD 0, b.getLsbD 1, b.getLsbD 2, b.getLsbD 3, b.getLsbD 4, b.getLsbD 5, b.getLsbD 6, b.getLsbD 7, true]

/-- The levels of a frame: its characters follow one another with no idle time between them (R59). -/
def frameLevels (frame : List Byte) : List Bool := frame.flatMap character

/-- The character time in µs: 10 bit times (R59). -/
def BitRate.characterMicros : BitRate → Nat
  | .k250 => 40
  | .k500 => 20
  | .m1 => 10
  | .m2 => 5

/-- Two character times, in bit times: the guard before a transmission (R59), and the idle time that ends a truncated answer (R61). -/
def guardBits : Nat := 20

/-- The reply timeout has run out after this many bit times (R57, R61): a bit time is a tenth of the character time, and the setting counts
10 µs. -/
def Settings.timedOut (c : Settings) (bits : Nat) : Bool := decide (100 * c.replyTimeout ≤ bits * c.bitRate.characterMicros)

/-- The guard is met: the line has been idle for at least two character times (R59). The time of a reply timeout counts towards it. -/
def guardMet (idleBits : Nat) : Bool := decide (guardBits ≤ idleBits)

/-! ## The transmitter -/

/-- What TXDn carries of the attempt in progress, from the start bit of its first character to the stop bit of its last (R59, R60). Every
attempt of a call sends the same (R63). -/
def LinkRecord.sending (r : LinkRecord) : List Bool :=
  match r.call with
  | some c => if c.waiting then frameLevels c.frame else []
  | none => []

/-- TXENn is high in this bit time of the attempt: while TXDn carries the call (R59). With no attempt in progress, after a reset too, it is
low (R160). -/
def LinkRecord.txenHigh (r : LinkRecord) (bit : Nat) : Bool := decide (bit < r.sending.length)

/-- The levels of RXDn that the receiver takes: it is off while TXENn is high (R59). Of a character that begins while TXENn is high and ends
after it falls the spec says nothing; that the receiver then takes a low level left of it as a start bit is the model's DESIGN CHOICE (log
entry 29). -/
def LinkRecord.heard (r : LinkRecord) (rxd : List Bool) : List Bool := rxd.drop r.sending.length

/-! ## The receiver -/

/-- How the wait of an attempt ends (R59, R61). -/
inductive Reception where
  | complete (frame : List Byte)
  | badLength (length : Byte)
  | truncated
  | framingFault
  | noAnswer
deriving DecidableEq, Repr

/-- What the characters received so far end the wait with (R61): a length byte above 40 as it is received, a complete frame with its last
character, and nothing before. -/
def receptionOf (got : List Byte) : Option Reception :=
  match got[3]? with
  | none => none
  | some n =>
    if Config.answerPayload < n.toNat then some (.badLength n)
    else if got.length = 5 + n.toNat then some (.complete got)
    else none

/-- The receiver at its next levels (R59, R61). `got` holds the characters received, `char` the data bits of the character in progress, `idle`
the bit times without a start bit. The result is absent while the wait goes on. -/
def receive (c : Settings) (got : List Byte) (char : Option (List Bool)) (idle : Nat) : List Bool → Option Reception
  | [] => none
  | level :: rest =>
    match char with
    | some bits =>
      if bits.length < 8 then receive c got (some (bits ++ [level])) 0 rest
      else if level then
        match receptionOf (got ++ [byteOfBits bits]) with
        | some e => some e
        | none => receive c (got ++ [byteOfBits bits]) none 0 rest
      else some .framingFault
    | none =>
      if level = false then receive c got (some []) 0 rest
      else if got = [] then
        if c.timedOut (idle + 1) then some .noAnswer else receive c got none (idle + 1) rest
      else if guardMet (idle + 1) then some .truncated
      else receive c got none (idle + 1) rest

/-- The command that stands for the end of a wait. -/
def Reception.command (l : LinkId) : Reception → Instr
  | .complete frame => .answerReceived l frame
  | .badLength n => .answerBadLength l n
  | .truncated => .answerTruncated l
  | .framingFault => .framingFault l
  | .noAnswer => .replyTimeout l

/-- The command that the levels of RXDn since the start of an attempt amount to: the end of an addressed call's wait (R61), or the completion
of the broadcast PARK, which hears nothing (R65). Without an attempt in progress characters are discarded (R61). -/
def LinkRecord.lineCommand (r : LinkRecord) (l : LinkId) (rxd : List Bool) : Option Instr :=
  if r.awaited.isSome then (receive r.settings [] none 0 (r.heard rxd)).map fun e => e.command l
  else if r.parkingAll && r.settings.timedOut (r.heard rxd).length then some (.broadcastParkCompletion l)
  else none

end Sys2Proof.Machine
end

