-- ==== Sys2Proof/Safety.lean ====
section
/-! DEFINITION. The laws the manual states of the whole part, and the words in which statements about a grant are said. -/

namespace Sys2Proof.Machine

/-! ## Which request a grant serves, and its layout -/

/-- The command is the grant of a request with this code (R152, ch. 8.5): UNKNOWN_REQUEST serves every code that names no request, and
a command that is no grant serves none. -/
def grants (c : Instr) (code : Byte) : Bool :=
  match c with
  | .reset | .resetEnd _ _ | .checkEnd _ | .windowOpen _ | .windowClose _ _ => false
  | .leaseClockTick | .leaseExpiry _ | .cycleTimerExpiry _ | .callBuild _ | .attemptRetry _ => false
  | .answerReceived _ _ | .replyTimeout _ | .answerBadLength _ _ | .answerTruncated _ | .framingFault _ => false
  | .broadcastParkCompletion _ => false
  | .pollRequest => code == 0x01
  | .unknownRequest => !requestCodes.contains code
  | .lookup => code == 0x10
  | .listPoints => code == 0x11
  | .describePoint => code == 0x12
  | .pointSummary => code == 0x13
  | .nodeInfo => code == 0x20
  | .listNodes => code == 0x21
  | .nameNode => code == 0x22
  | .rescanNode => code == 0x23
  | .excludeNode => code == 0x24
  | .includeNode => code == 0x25
  | .forgetNode => code == 0x26
  | .startLink => code == 0x30
  | .stopLink => code == 0x31
  | .setLink => code == 0x32
  | .linkStatus => code == 0x33
  | .read => code == 0x40
  | .write => code == 0x41
  | .setSafe => code == 0x42
  | .substitute => code == 0x43
  | .unsubstitute => code == 0x44
  | .openLease => code == 0x50
  | .claim => code == 0x51
  | .release => code == 0x52
  | .renew => code == 0x53
  | .closeLease => code == 0x54
  | .revoke => code == 0x55
  | .leaseInfo => code == 0x56
  | .watch => code == 0x60
  | .unwatch => code == 0x61
  | .setDeadband => code == 0x62
  | .nextChanges => code == 0x63
  | .ackChanges => code == 0x64
  | .deviceInfo => code == 0x02
  | .openSession => code == 0x03
  | .closeSession => code == 0x04
  | .setAttention => code == 0x05
  | .resetDevice => code == 0x06

/-- How many parameter bytes a request has (ch. 8.4): a fixed number, or a fixed part that ends in a count or name length byte and that
many entries of one size. -/
inductive Layout where
  | fixed (length : Nat)
  | counted (fixedPart entry : Nat)
deriving DecidableEq, Repr

/-- The parameter layout of each request (ch. 8.4): absent for POLL in a slot and for a code that names no request, which no parameter
bytes match (R153). -/
def layoutOf (code : Byte) : Option Layout :=
  if code ∈ [reqDeviceInfo, reqOpenSession, reqCloseSession, reqResetDevice, reqPointSummary, reqListNodes, reqNextChanges] then
    some (.fixed 0)
  else if code ∈ [reqNodeInfo, reqRescanNode, reqExcludeNode, reqIncludeNode, reqForgetNode, reqStartLink, reqStopLink,
      reqLinkStatus] then
    some (.fixed 1)
  else if code ∈ [reqSetAttention, reqDescribePoint, reqUnsubstitute, reqOpenLease, reqRenew, reqCloseLease, reqRevoke] then
    some (.fixed 2)
  else if code = reqLeaseInfo then some (.fixed 3)
  else if code ∈ [reqListPoints, reqSetDeadband] then some (.fixed 4)
  else if code = reqSubstitute then some (.fixed 6)
  else if code = reqSetSafe then some (.fixed 8)
  else if code = reqSetLink then some (.fixed 9)
  else if code = reqLookup then some (.counted 1 1)
  else if code = reqNameNode then some (.counted 2 1)
  else if code ∈ [reqRead, reqWatch, reqUnwatch] then some (.counted 1 2)
  else if code = reqAckChanges then some (.counted 1 4)
  else if code ∈ [reqClaim, reqRelease] then some (.counted 3 2)
  else if code = reqWrite then some (.counted 3 6)
  else none

/-- Parameter bytes match the layout of a request (R153). -/
def layoutMatches (code : Byte) (params : List Byte) : Bool :=
  match layoutOf code with
  | none => false
  | some (.fixed n) => decide (params.length = n)
  | some (.counted f size) =>
    match params[f - 1]? with
    | some n => decide (params.length = f + n.toNat * size)
    | none => false

/-- The supervisor-only requests, as R153 lists them. -/
def supervisorRequests : List Byte :=
  [reqNameNode, reqRescanNode, reqExcludeNode, reqIncludeNode, reqForgetNode, reqStartLink, reqStopLink, reqSetLink,
    reqSubstitute, reqUnsubstitute, reqRevoke, reqResetDevice]

/-- The request engine's next request is the one with this code and these parameters, of this port (R152). -/
abbrev State.nextIs (s : State) (p : PortId) (code : Byte) (params : List Byte) : Prop :=
  s.nextRequest.map (fun g => (g.1, g.2.code, g.2.params)) = some (p, code, params)

/-- The next request is one that a port with an open session makes of a READY part. -/
abbrev State.asks (s : State) (p : PortId) (code : Byte) (params : List Byte) : Prop :=
  s.device = .ready ∧ s.nextIs p code params ∧ (s.port p).sessionOpen = true

/-- The same, from a supervisor port. -/
abbrev State.supervisorAsks (s : State) (p : PortId) (code : Byte) (params : List Byte) : Prop :=
  s.asks p code params ∧ s.isSupervisor p = true

/-- A slot handle is accepted and names this slot (R5), for requests other than ACK_CHANGES and UNWATCH: the record is LIVE or
ORPHANED and of the handle's generation. -/
abbrev State.handleNames (s : State) (h : Nat) (i : DirSlot) : Prop :=
  h % 512 = i.val ∧ ((s.point i).state = .live ∨ (s.point i).state = .orphaned) ∧ (s.point i).generation = h / 512

/-- A lease handle names this HELD lease of the port (R108). -/
abbrev State.holds (s : State) (p : PortId) (index serial : Byte) (k : LeaseIndex) : Prop :=
  index.toNat = k.val ∧ (s.leaseAt k).state = .held ∧ (s.leaseAt k).serial = serial.toNat ∧ (s.leaseAt k).holder = some p

/-- A lease handle names a lease of any port that is not FREE (R108). -/
abbrev State.namesLease (s : State) (index serial : Byte) (k : LeaseIndex) : Prop :=
  index.toNat = k.val ∧ (s.leaseAt k).state ≠ .free ∧ (s.leaseAt k).serial = serial.toNat

/-- The bytes of a count and that many handles (ch. 8.4). -/
def countedHandles (hs : List Nat) : List Byte := byte hs.length :: hs.flatMap le16

/-- The bytes of a count and that many pairs of handle and revision (ch. 8.4). -/
def countedRevisions (as : List (Nat × BitVec 16)) : List Byte :=
  byte as.length :: as.flatMap fun e => le16 e.1 ++ le16 e.2.toNat

/-- The bytes of a count and that many pairs of handle and value (ch. 8.4). -/
def countedValues (vs : List (Nat × Word32)) : List Byte := byte vs.length :: vs.flatMap fun e => le16 e.1 ++ le32 e.2

/-- A full name that passes the check of R21. -/
def lawfulFullName (name : Text) : Prop :=
  ∃ station element : Text, name = station ++ 0x2E :: element ∧ 1 ≤ station.length ∧ station.length ≤ 8 ∧
    1 ≤ element.length ∧ element.length ≤ 12 ∧ (∀ c ∈ station, legalChar c = true) ∧ ∀ c ∈ element, legalChar c = true

/-- A call of this link to this address waits for its answer. -/
abbrev State.awaits (s : State) (l : LinkId) (c : Call) (a : NodeAddr) : Prop :=
  (s.link l).call = some c ∧ c.waiting = true ∧ c.target = some a

/-- The answer frame of ch. 8.6: address with the answer marker, kind echo and sequence bit echo, status, length, payload, CRC. -/
def answerFrame (a : NodeAddr) (kind : CallKind) (seqBit : Bool) (status : Byte) (payload : List Byte) : List Byte :=
  let body := byte (0x81 + a.val) :: (if seqBit then kind.code ||| 0x80 else kind.code) :: status :: byte payload.length :: payload
  body ++ [crc8 body]

/-- The answer payload length that a call requires, as the table of R62 lists it. -/
def Call.answerFits (c : Call) (length : Nat) : Prop :=
  match c.kind with
  | .probe => length = 16
  | .describe => 18 ≤ length ∧ length ≤ 36
  | .exchange => length = c.answerLength
  | .clearHold => length = 0
  | .park => length = 0

/-- Bytes as they pass over SDIn or SDOn, one level for each edge of SCKn that shifts a bit: most significant bit first (R141). -/
def overSpi (bytes : List Byte) : List Bool := bytes.flatMap fun b => (List.finRange 8).map fun k => b.getLsbD (7 - k.val)

/-- The command is an event that fails the attempt waiting on a link (R59, R61). -/
abbrev failsAttempt (l : LinkId) (cmd : Instr) : Prop :=
  cmd = .replyTimeout l ∨ cmd = .answerTruncated l ∨ cmd = .framingFault l ∨ ∃ b : Byte, 40 < b.toNat ∧ cmd = .answerBadLength l b

/-- What a cycle start makes of a link record, in the order of R71, and of nothing else: the pending period comes into force, the timer is
loaded, the cycle is counted, and the ONLINE addresses are listed. -/
def State.startsCycle (s : State) (l : LinkId) (r : LinkRecord) (t : State) : Prop :=
  let period := r.pendingPeriod.getD r.settings.period
  t = s.setLink l (t.link l) ∧
    t.link l =
      { r with
        settings := { r.settings with period := period }, pendingPeriod := none, cycleTimer := some period
        cycles := r.cycles + 1, serviceStarted := 0
        exchangeList := (List.finRange 16).filter fun a => (s.nodeAt l a).state == .online
        late := false, complete := !t.hasNextCall l }

/-- A bit of an image, counted from the least significant bit of byte 0 (00_scope.md, "Byte order"). -/
def imageBit (image : List Byte) (k : Nat) : Bool := (image.getD (k / 8) 0).getLsbD (k % 8)

/-- A value as its kind reads it: two's complement for SIGNED, unsigned otherwise (00_scope.md, "Values"). -/
def readAs (k : Kind) (v : Word32) : Int := if k = .signed then v.toInt else v.toNat

/-- Entries taken one after another: the state after the last one, and their results in order. -/
def takenInTurn {α : Type} (entry : State → α → State × Result) (s : State) (as : List α) : State × List Result :=
  as.foldl (fun acc a => ((entry acc.1 a).1, acc.2 ++ [(entry acc.1 a).2])) (s, [])

/-- The records of every slot of the directory that meet a test, by slot in ascending order. -/
def slotsWhere (test : DirSlot → Bool) : List DirSlot := (List.finRange 512).filter test

/-- How many directory records are in a state. -/
def State.recordsIn (s : State) (st : PointState) : Nat := (slotsWhere fun i => (s.point i).state == st).length

/-! ## The laws -/

/-- R144: a port has at most four occupied slots, and its DONE slots stand before its WAITING slots. -/
def SlotsLaw (s : State) : Prop :=
  ∀ p, (s.port p).slots.length ≤ 4 ∧ (s.port p).slots.Pairwise fun a b => b.response.isSome → a.response.isSome

/-- R160, R161: while the part is in reset or in CHECKING, every block stands at its reset value (of the stores in CHECKING the model's choice,
log entry 30), and no window is served. -/
def QuietLaw (s : State) : Prop :=
  s.serving = false →
    s.points = State.reset.points ∧ s.nameMap = [] ∧ s.nodes = State.reset.nodes ∧ s.leases = State.reset.leases ∧
      (∀ l, s.link l = LinkRecord.reset) ∧ s.grantPointer = .h2 ∧
      ∀ p, { s.port p with window := none } = PortRecord.reset ∧
        ((s.port p).window = none ∨ (s.port p).window = some .unserved)

/-- R17 and R129 of one record: the mark set is contained in the watch set; a RETIRED record's sets are equal and not empty; a FREE or
RESERVED record has no watcher. -/
def PointRecord.marksLawful (r : PointRecord) : Prop :=
  (∀ p, r.mark.has p = true → r.watch.has p = true) ∧
    (r.state = .retired → r.mark = r.watch ∧ r.mark.isEmpty = false) ∧
    (r.state = .free ∨ r.state = .reserved → r.watch = PortSet.empty)

/-- How many records hold a mark for the port. -/
def State.marksOf (s : State) (p : PortId) : Nat := s.points.toList.countP fun r => r.mark.has p

/-- R17, R129: the law of marks on every record, and each port's marked count is the number of records marked for it. -/
def MarksLaw (s : State) : Prop :=
  (∀ i, (s.point i).marksLawful) ∧ ∀ p, (s.port p).markedCount = s.marksOf p

/-- R85 of one record: an IN record without a substituting port shows its field value and field quality, one with a substituting port
has quality SUBSTITUTED, and the field quality is one a field can give. -/
def PointRecord.valuesLawful (r : PointRecord) : Prop :=
  r.direction = .inp →
    r.fieldQuality ∈ [Quality.none, .good, .suspect, .stale, .lost] ∧
      match r.substPort with
      | none => r.value = r.fieldValue ∧ r.quality = r.fieldQuality
      | some _ => r.quality = .substituted

/-- R85, R105: the law of values on every record, and the substituting port of an IN point has an open session and the supervisor
role. -/
def ValuesLaw (s : State) : Prop :=
  ∀ i, (s.point i).valuesLawful ∧
    ∀ p, (s.point i).direction = .inp → (s.point i).substPort = some p →
      (s.port p).sessionOpen = true ∧ s.isSupervisor p = true

/-- R86: an OUT record is pending exactly when applied is absent or differs from demand. -/
def PendingLaw (s : State) : Prop :=
  ∀ i, (s.point i).direction = .out →
    ((s.point i).pending = true ↔ (s.point i).applied = none ∨ (s.point i).applied ≠ some (s.point i).demand)

/-- R106, R107, R114 of one record. -/
def LeaseRecord.lawful (r : LeaseRecord) : Prop :=
  r.serial ≤ 255 ∧ r.members.length ≤ 32 ∧ r.lostMembers ≤ 255 ∧
    match r.state with
    | .free => r.holder = none ∧ r.term = 0 ∧ r.remaining = 0 ∧ r.members = [] ∧ r.lostMembers = 0 ∧ r.cause = none
    | .held =>
      r.holder ≠ none ∧ 20 ≤ r.term ∧ r.term ≤ 60000 ∧ 1 ≤ r.remaining ∧ r.remaining ≤ r.term ∧ r.cause = none ∧
        1 ≤ r.serial
    | .lapsed => r.holder ≠ none ∧ r.remaining = 0 ∧ r.members = [] ∧ r.cause ≠ none ∧ 1 ≤ r.serial

/-- R106, R107, R114: every lease record is in the ranges of its state. -/
def LeaseLaw (s : State) : Prop := ∀ k, (s.leaseAt k).lawful

/-- R109, R110: a point names a lease exactly when the lease's member list contains its slot; no list holds a slot twice; every member is
a LIVE or ORPHANED OUT point; an OUT point that belongs to no lease has demand equal to its safe value, from its reservation on. -/
def MembersLaw (s : State) : Prop :=
  (∀ i k, (s.point i).lease = some k ↔ i ∈ (s.leaseAt k).members) ∧ (∀ k, (s.leaseAt k).members.Nodup) ∧
    (∀ i k, (s.point i).lease = some k → (s.point i).published = true ∧ (s.point i).direction = .out) ∧
    ∀ i, (s.point i).state ≠ .free → (s.point i).state ≠ .retired → (s.point i).direction = .out →
      (s.point i).lease = none → (s.point i).demand = (s.point i).safeValue

/-- R58: a link that is OFF has no call in flight, its timer does not run, and none of its nodes is DESCRIBING, ONLINE or RESYNC. The
timer of a STOPPING link does not run either (R71, R80). -/
def LinkLaw (s : State) : Prop :=
  ∀ l, ((s.link l).state ≠ .running → (s.link l).cycleTimer = none) ∧
    ((s.link l).state = .off → (s.link l).call = none ∧
      ∀ a, (s.nodeAt l a).state ≠ .describing ∧ (s.nodeAt l a).state ≠ .online ∧ (s.nodeAt l a).state ≠ .resync)

/-- R6: a point record is RESERVED only while its node is DESCRIBING, LIVE only while its node is ONLINE or RESYNC, and ORPHANED only while
its node is LOST. -/
def RecordsLaw (s : State) : Prop :=
  ∀ i,
    ((s.point i).state = .reserved → (s.node (s.point i).nodeSlot).state = .describing) ∧
    ((s.point i).state = .live →
      (s.node (s.point i).nodeSlot).state = .online ∨ (s.node (s.point i).nodeSlot).state = .resync) ∧
    ((s.point i).state = .orphaned → (s.node (s.point i).nodeSlot).state = .lost)

/-- R19: the name map holds one entry for each LIVE or ORPHANED record, keyed by its full name and giving its slot, and no other. -/
def NamesLaw (s : State) : Prop :=
  (∀ name i, (name, i) ∈ s.nameMap ↔
    (s.point i).published = true ∧
      name = fullName (s.node (s.point i).nodeSlot).stationText (s.point i).elementName) ∧
    (s.nameMap.map Prod.snd).Nodup

end Sys2Proof.Machine
end

