-- ==== Sys2Proof/WellFormed.lean ====
section
/-! DEFINITION. Which commands are well formed: the operand stands for an event of the row's own kind. -/

namespace Sys2Proof

/-- A run of characters is one complete answer frame: 5 characters plus the length its fourth byte gives, which is at
most 40 (R61). -/
def completeAnswer (frame : List Byte) : Bool :=
  match frame[3]? with
  | some n => decide (n.toNat ≤ Config.answerPayload) && decide (frame.length = 5 + n.toNat)
  | none => false

/-- A command is well formed when its operand is in the range of its row: a lease index below 64 (R106), an answer that is
complete (R61), a bad length byte that is above 40 (R61). Every other command is well formed. -/
def Instr.wellFormed : Instr → Bool
  | .leaseExpiry index => decide (index < Config.leaseRecords)
  | .answerReceived _ frame => completeAnswer frame
  | .answerBadLength _ length => decide (Config.answerPayload < length.toNat)
  | .reset | .resetEnd _ _ | .checkEnd _ | .windowOpen _ | .windowClose _ _ | .pollRequest | .unknownRequest => true
  | .lookup | .listPoints | .describePoint | .pointSummary | .nodeInfo | .listNodes | .nameNode => true
  | .rescanNode | .excludeNode | .includeNode | .forgetNode | .startLink | .stopLink | .setLink | .linkStatus => true
  | .read | .write | .setSafe | .substitute | .unsubstitute => true
  | .openLease | .claim | .release | .renew | .closeLease | .revoke | .leaseInfo => true
  | .watch | .unwatch | .setDeadband | .nextChanges | .ackChanges => true
  | .deviceInfo | .openSession | .closeSession | .setAttention | .resetDevice => true
  | .leaseClockTick | .cycleTimerExpiry _ | .callBuild _ | .attemptRetry _ | .replyTimeout _ => true
  | .answerTruncated _ | .framingFault _ | .broadcastParkCompletion _ => true

end Sys2Proof
end

