-- ==== Sys2Proof/Certificates/Slice0/Obligations.lean ====
section
/-! DEFINITION. The statements for the provers. Each docstring names the rule of the spec that the statement says, or the log entry whose
choice it says. -/

open Sys2Proof Sys2Proof.Machine

/-! ## The queue of commands -/

/-- The model's choice (log entry 2; the spec has no queue of commands): a step takes the command at the front of the queue and runs it whole,
as 95_what_each_step_holds.md says of each step, with the queue's rest. -/
def Obligations.StepRunsTheFrontCommand : Prop :=
  ∀ (c : Instr) (rest : List Instr) (s : State), s.pending = c :: rest → step s = exec c (s.setPending rest)

/-- The model's choice (log entry 2): on an empty queue the part idles. -/
def Obligations.EmptyQueueIdles : Prop := ∀ s : State, s.pending = [] → step s = .next s

/-- No command stops the part or touches the queue; and only a reset, its end, the end of the check and the close of a window (which
may trigger a reset) change the device state or the roles (R155, R162). -/
def Obligations.EveryCommandCompletes : Prop :=
  ∀ (c : Instr) (s : State), ∃ t, exec c s = .next t ∧ t.pending = s.pending ∧
    (c ≠ .reset → (∀ a b, c ≠ .resetEnd a b) → (∀ b, c ≠ .checkEnd b) → (∀ p e, c ≠ .windowClose p e) →
      t.device = s.device ∧ t.supervisors = s.supervisors ∧ t.supsel1 = s.supsel1 ∧ t.supsel0 = s.supsel0)

/-- The model's choice (log entry 1): a command whose event cannot occur in the state it meets changes nothing. -/
def Obligations.ImpossibleCommandsChangeNothing : Prop :=
  ∀ s : State,
    (∀ c p code params, (∃ code', grants c code' = true) → s.nextIs p code params → grants c code = false →
      exec c s = .next s) ∧
    (∀ c, (∃ code', grants c code' = true) → s.nextRequest = none → exec c s = .next s) ∧
    (∀ b1 b0, s.device ≠ .resetHeld → exec (.resetEnd b1 b0) s = .next s) ∧
    (∀ b, s.device ≠ .checking → exec (.checkEnd b) s = .next s) ∧
    (∀ p, (s.port p).window ≠ none → exec (.windowOpen p) s = .next s) ∧
    (∀ p edge, (s.port p).window = none → exec (.windowClose p edge) s = .next s) ∧
    (∀ l, (s.link l).cycleTimer ≠ some 0 ∨ (s.link l).state ≠ .running → exec (.cycleTimerExpiry l) s = .next s) ∧
    (∀ l, (s.link l).call ≠ none ∨ (s.link l).state = .off ∨ ((s.link l).state = .running ∧ (s.link l).complete = true) →
      exec (.callBuild l) s = .next s) ∧
    (∀ l, ((s.link l).call = none ∨ ∃ c, (s.link l).call = some c ∧ (c.waiting = true ∨ c.target = none)) →
      exec (.attemptRetry l) s = .next s) ∧
    (∀ l, ((s.link l).call = none ∨ ∃ c, (s.link l).call = some c ∧ (c.waiting = false ∨ c.target = none)) →
      (∀ frame, exec (.answerReceived l frame) s = .next s) ∧ exec (.replyTimeout l) s = .next s ∧
        (∀ n, exec (.answerBadLength l n) s = .next s) ∧ exec (.answerTruncated l) s = .next s ∧
          exec (.framingFault l) s = .next s) ∧
    (∀ l n, n.toNat ≤ 40 → exec (.answerBadLength l n) s = .next s) ∧
    (∀ l, (s.link l).state ≠ .stopping ∨ (s.link l).call = none ∨ (∃ c a, (s.link l).call = some c ∧ c.target = some a) →
      exec (.broadcastParkCompletion l) s = .next s) ∧
    (∀ k, 64 ≤ k → exec (.leaseExpiry k) s = .next s) ∧
    (∀ k : LeaseIndex, (s.leaseAt k).state ≠ .held ∨ 1 < (s.leaseAt k).remaining →
      exec (.leaseExpiry k.val) s = .next s)

/-! ## Reset and check -/

/-- R160 with R26 and R3, R28, R57, R58, R64, R74, R85, R86, R107, R140, R144, R147, R149, R152, R155: RESET leaves every block at its reset
value, every field of every record spelled out, every ATTNn line high and every TXENn low. A window in progress is no longer served, and SDOn is
high in it (till CSn rises: the model's reading, log entry 22). That the part then stands in a device state of its own until
RESET_END is log entry 21, that it has no roles until then log entry 3, and the values of a link's service count, exchange list, `late` and
`complete` are the model's choice, log entry 20. -/
def Obligations.ResetValues : Prop :=
  ∀ s : State, ∃ t, exec .reset s = .next t ∧ t.device = .resetHeld ∧ t.supervisors = ⟨false, false, false⟩ ∧ t.nameMap = [] ∧
    t.grantPointer = .h2 ∧ t.pending = s.pending ∧ t.supsel1 = s.supsel1 ∧ t.supsel0 = s.supsel0 ∧
    (∀ i, t.point i =
      { state := .free, generation := 0, nodeSlot := 0, elementIndex := 0, kind := .pad, direction := .inp, width := 0
        imageOffset := 0, elementName := [], unitText := none, rawLow := 0, rawHigh := 0, descriptorSafe := 0
        safeValue := 0, value := 0, fieldValue := 0, fieldQuality := .none, demand := 0, applied := none, pending := false
        inFlight := none, quality := .none, lease := none, substPort := none, revision := 0, deadband := 0, markRef := 0
        watch := ⟨false, false, false⟩, mark := ⟨false, false, false⟩ }) ∧
    (∀ n, t.node n =
      { state := .vacant, identity := ⟨[], 0, 0, 0, 0, 0, 0⟩, stationName := none, incarnation := 0, failures := 0
        retryTotal := 0, nodeFault := false, held := false, freshExpected := false, cursor := 0, packedIn := 0
        packedOut := 0, refuseReason := none, lostCause := none, parkOwed := false }) ∧
    (∀ k, t.leaseAt k =
      { state := .free, serial := 0, holder := none, term := 0, remaining := 0, members := [], lostMembers := 0
        cause := none }) ∧
    (∀ l, t.link l =
      { state := .off, settings := ⟨.m1, 10, 20, 1, 3, 2, BitVec.allOnes 16⟩, pendingPeriod := none, cycles := 0
        lateCycles := 0, failedCalls := 0, droppedService := 0, cycleTimer := none, call := none
        seqBits := Vector.replicate 16 false, lostCursor := 0, vacantCursor := 0, serviceStarted := 0, exchangeList := []
        late := false, complete := false }) ∧
    (∀ l bit, (t.link l).txenHigh bit = false) ∧
    ∀ p, t.attnLow p = false ∧ (∀ falls, (t.port p).sdoLevel falls = (s.port p).window.map fun _ => true) ∧ t.port p =
      { slots := [], window := (s.port p).window.map fun _ => .unserved, sessionOpen := false, frameError := false
        overrun := false, marksEnabled := true, lapsesEnabled := true, markedCount := 0, scanCursor := 0 }

/-- R155, R160, R161: at the end of a reset the SUPSEL levels choose the supervisor ports and the part enters CHECKING, with the stores as they
are (the model's choice, log entry 30); at the end of the test every store is at its reset value and the part is READY or FAILED, with its roles kept. -/
def Obligations.ResetEndAndCheckEnd : Prop :=
  ∀ s : State,
    (s.device = .resetHeld →
      exec (.resetEnd false false) s =
          .next { s with device := .checking, supsel1 := false, supsel0 := false, supervisors := ⟨true, false, false⟩ } ∧
        exec (.resetEnd false true) s =
          .next { s with device := .checking, supsel1 := false, supsel0 := true, supervisors := ⟨false, true, false⟩ } ∧
        exec (.resetEnd true false) s =
          .next { s with device := .checking, supsel1 := true, supsel0 := false, supervisors := ⟨false, false, true⟩ } ∧
        exec (.resetEnd true true) s =
          .next { s with device := .checking, supsel1 := true, supsel0 := true, supervisors := ⟨true, true, true⟩ }) ∧
    (s.device = .checking → ∀ passed, ∃ t, exec (.checkEnd passed) s = .next t ∧
      t.device = (if passed then .ready else .failed) ∧ t.supervisors = s.supervisors ∧ t.nameMap = [] ∧
      (∀ i, t.point i = PointRecord.reset) ∧ (∀ n, t.node n = NodeRecord.reset) ∧ (∀ k, t.leaseAt k = LeaseRecord.reset) ∧
      (∀ l, t.link l = LinkRecord.reset) ∧ (∀ p, t.port p = { s.port p with slots := [] }) ∧
      t.grantPointer = s.grantPointer ∧ t.pending = s.pending)

/-! ## Windows -/

/-- R141, R143, R145: the outgoing frame is fixed when the window opens: the head slot's response if it is DONE, an IDLE frame otherwise,
with the status byte of that moment; no frame while windows are not served. Nothing else changes. SDOn then shows the frame's bits, most
significant first, one for each falling edge of SCKn before it, and is high after the frame and throughout a window that is not served. It is not driven
outside a window. -/
def Obligations.WindowOpenFixesTheFrame : Prop :=
  ∀ (p : PortId) (s : State), (s.port p).window = none →
    let r := s.port p
    let opened (frame : List Byte) (isResponse : Bool) : Host.Outcome State Fault Refusal :=
      .next (s.setPort p { r with window := some (.served ⟨frame, isResponse, r.frameError, r.overrun⟩) })
    (s.device = .resetHeld ∨ s.device = .checking →
      exec (.windowOpen p) s = .next (s.setPort p { r with window := some .unserved })) ∧
    (s.device = .ready ∨ s.device = .failed →
      (∀ head resp behind, r.slots = head :: behind → head.response = some resp →
        let more : Bool := behind.any fun e => e.response.isSome
        let body := byte (5 + resp.fields.length) :: head.tag :: resp.result.code :: s.statusByte p more :: resp.fields
        exec (.windowOpen p) s = opened (body ++ [crc8 body]) true) ∧
      ((r.slots = [] ∨ ∃ head behind, r.slots = head :: behind ∧ head.response = none) →
        let body : List Byte := [0x05, 0x00, 0x01, s.statusByte p false]
        exec (.windowOpen p) s = opened (body ++ [crc8 body]) false)) ∧
    ∀ (r : PortRecord) (falls : Nat),
      r.sdoLevel falls =
        match r.window with
        | none => none
        | some .unserved => some true
        | some (.served out) => some (((overSpi out.frame)[falls]?).getD true)

/-- R148 (with the bit places of ch. 8.3) and R149: the conditions the status byte shows, and those that hold ATTNn low. -/
def Obligations.StatusByteAndAttention : Prop :=
  ∀ (s : State) (p : PortId) (more : Bool),
    let b := s.statusByte p more
    let r := s.port p
    let lapsed : Prop := ∃ k, (s.leaseAt k).state = .lapsed ∧ (s.leaseAt k).holder = some p
    (b.getLsbD 0 = more ∧ (b.getLsbD 1 = true ↔ 0 < r.markedCount) ∧ (b.getLsbD 2 = true ↔ lapsed) ∧
      b.getLsbD 3 = r.frameError ∧ b.getLsbD 4 = r.overrun ∧ b.getLsbD 5 = r.sessionOpen ∧
      (b.getLsbD 6 = true ↔ s.device = .failed) ∧ b.getLsbD 7 = false) ∧
    (s.attnLow p = true ↔
      (s.device = .ready ∨ s.device = .failed) ∧
        ((∃ e ∈ r.slots, e.response.isSome = true) ∨ (0 < r.markedCount ∧ r.marksEnabled = true) ∨
          (lapsed ∧ r.lapsesEnabled = true) ∨ r.frameError = true ∨ r.overrun = true))

/-- R141, R142, R145, R146, R147: the levels sampled on SDIn are bytes, most significant bit first, and the bits after the last complete byte
are discarded. A window that closes with a well-formed frame acknowledges what it delivered if it was long enough (unless it
acknowledges the OK of a RESET_DEVICE, R164), and then a POLL takes no slot, and any other frame takes a FREE slot or sets OVERRUN. The other
ports and all tables stay. That a RESET_DEVICE answered other than OK triggers no reset, so that this holds of its acknowledgement too, is the
model's reading (log entry 15). -/
def Obligations.WindowCloseTakesAFrame : Prop :=
  ∀ (p : PortId) (s : State) (out : OutFrame) (tag code : Byte) (params filler : List Byte)
    (partialByte : List Bool) (supsel1 supsel0 : Bool),
    (s.port p).window = some (.served out) → params.length ≤ 60 → partialByte.length < 8 →
    let r := s.port p
    let body := byte (4 + params.length) :: tag :: code :: params
    let bytes := body ++ crc8 body :: filler
    let acked := decide (out.frame.length ≤ bytes.length)
    let slots := if acked && out.isResponse then r.slots.tail else r.slots
    let poll := code == 0x01 && params.length == 0
    let fits := decide (slots.length < 4)
    (acked && out.isResponse) = false ∨
        (∀ head behind, r.slots = head :: behind → head.code ≠ 0x06 ∨ head.response ≠ some ⟨.ok, []⟩) →
    exec (.windowClose p ⟨overSpi bytes ++ partialByte, supsel1, supsel0⟩) s =
      .next (s.setPort p
        { r with
          window := none
          slots := if !poll && fits then slots ++ [⟨tag, code, params, none⟩] else slots
          frameError := r.frameError && !(acked && out.frameErrorShown)
          overrun := (r.overrun && !(acked && out.overrunShown)) || (!poll && !fits) })

/-- R141, R142, R145, R146: a window of zero complete bytes or of length byte 0 changes nothing but its own end; one whose frame has a frame
error acknowledges nothing and sets FRAME_ERROR; the close of a window that is not served has no effect. -/
def Obligations.WindowCloseWithoutAFrame : Prop :=
  ∀ (p : PortId) (s : State) (bytes : List Byte) (partialByte : List Bool) (supsel1 supsel0 : Bool), partialByte.length < 8 →
    let r := s.port p
    let edge : CloseEdge := ⟨overSpi bytes ++ partialByte, supsel1, supsel0⟩
    (r.window = some .unserved → exec (.windowClose p edge) s = .next (s.setPort p { r with window := none })) ∧
    ∀ out, r.window = some (.served out) →
      ((bytes = [] ∨ bytes.head? = some 0) → exec (.windowClose p edge) s = .next (s.setPort p { r with window := none })) ∧
      (∀ L, bytes.head? = some L → L.toNat ≠ 0 →
        (L.toNat < 4 ∨ 64 < L.toNat ∨ bytes.length < L.toNat ∨
          bytes[L.toNat - 1]? ≠ some (crc8 (bytes.take (L.toNat - 1)))) →
        exec (.windowClose p edge) s = .next (s.setPort p { r with window := none, frameError := true }))

/-- R145, R155, R160, R164: RESET_DEVICE is answered OK and changes nothing else; the close of the window that acknowledges that response resets
the part and accepts no frame. The reset ends at that close: the roles come from the SUPSEL levels of that moment, and the part enters
CHECKING. A window in progress on another port is no longer served (log entry 22). -/
def Obligations.ResetDeviceActsWhenAcknowledged : Prop :=
  (∀ (s : State) (p : PortId), s.supervisorAsks p 0x06 [] →
    exec .resetDevice s = .next (s.finishGrant p ⟨.ok, []⟩)) ∧
  ∀ (p : PortId) (s : State) (out : OutFrame) (head : PortSlot) (behind : List PortSlot) (tag code : Byte)
    (params filler : List Byte) (partialByte : List Bool) (supsel1 supsel0 : Bool),
    (s.port p).window = some (.served out) → out.isResponse = true → (s.port p).slots = head :: behind → head.code = 0x06 →
    head.response = some ⟨.ok, []⟩ → params.length ≤ 60 → partialByte.length < 8 →
    let body := byte (4 + params.length) :: tag :: code :: params
    let bytes := body ++ crc8 body :: filler
    out.frame.length ≤ bytes.length →
    ∃ t, exec (.windowClose p ⟨overSpi bytes ++ partialByte, supsel1, supsel0⟩) s = .next t ∧
      t = { State.reset with
              device := .checking, supsel1 := supsel1, supsel0 := supsel0, supervisors := t.supervisors
              port0 := t.port0, port1 := t.port1, port2 := t.port2, pending := s.pending } ∧
      (∀ q, t.port q =
        { PortRecord.reset with window := if q = p then none else (s.port q).window.map fun _ => .unserved }) ∧
      ∀ q, t.supervisors.has q = ((supsel1 && supsel0) || decide (q.toNat = 2 * supsel1.toNat + supsel0.toNat))

/-! ## The request engine -/

/-- R152: the request granted next is the earliest WAITING slot of the first port after the grant pointer that has one; none is granted in
reset or in CHECKING. -/
def Obligations.GrantTurnIsRoundRobin : Prop :=
  ∀ (s : State) (p : PortId) (e : PortSlot),
    s.nextRequest = some (p, e) ↔
      (s.device = .ready ∨ s.device = .failed) ∧
      (∃ before after, (s.port p).slots = before ++ e :: after ∧ e.response = none ∧
        ∀ d ∈ before, d.response.isSome = true) ∧
      ∀ q : PortId, (q.toNat + 2 - s.grantPointer.toNat) % 3 < (p.toNat + 2 - s.grantPointer.toNat) % 3 →
        ∀ d ∈ (s.port q).slots, d.response.isSome = true

/-- R152, R154: a grant writes one response into the slot it takes, which becomes DONE, and the grant pointer names the port. Every other
slot, every window, notice and role stays. A result other than OK and HELD_ELSEWHERE carries no fields. -/
def Obligations.GrantAnswersOneSlot : Prop :=
  ∀ (c : Instr) (s : State) (p : PortId) (e : PortSlot), s.nextRequest = some (p, e) → grants c e.code = true →
    ∃ t before after resp, exec c s = .next t ∧ (s.port p).slots = before ++ e :: after ∧
      (∀ d ∈ before, d.response.isSome = true) ∧
      (t.port p).slots = before ++ { e with response := some resp } :: after ∧ t.grantPointer = p ∧
      (resp.result ≠ .ok → resp.result ≠ .heldElsewhere → resp.fields = []) ∧
      (∀ q, q ≠ p → (t.port q).slots = (s.port q).slots) ∧
      (∀ q, (t.port q).window = (s.port q).window ∧ (t.port q).frameError = (s.port q).frameError ∧
        (t.port q).overrun = (s.port q).overrun) ∧
      t.device = s.device ∧ t.supervisors = s.supervisors

/-- R153: the common checks, in their order. A POLL in a slot and a code that names no request end here with BAD_REQUEST. -/
def Obligations.CommonChecksInOrder : Prop :=
  ∀ (s : State) (p : PortId) (code : Byte) (params : List Byte), s.nextIs p code params →
    (∀ c, grants c code = true →
      (s.device = .failed → code ≠ reqDeviceInfo → code ≠ reqPoll →
        exec c s = .next (s.finishGrant p ⟨.deviceFailed, []⟩)) ∧
      (s.device = .ready ∨ code = reqDeviceInfo ∨ code = reqPoll → layoutMatches code params = false →
        exec c s = .next (s.finishGrant p ⟨.badRequest, []⟩)) ∧
      (s.device = .ready → layoutMatches code params = true → code ≠ reqOpenSession → code ≠ reqDeviceInfo →
        (s.port p).sessionOpen = false → exec c s = .next (s.finishGrant p ⟨.noSession, []⟩)) ∧
      (s.device = .ready → layoutMatches code params = true → (s.port p).sessionOpen = true →
        supervisorRequests.contains code = true → s.isSupervisor p = false →
        exec c s = .next (s.finishGrant p ⟨.notPermitted, []⟩))) ∧
    (code = reqPoll → exec .pollRequest s = .next (s.finishGrant p ⟨.badRequest, []⟩)) ∧
    (s.device = .ready → requestCodes.contains code = false →
      exec .unknownRequest s = .next (s.finishGrant p ⟨.badRequest, []⟩))

/-- R5: the outcome of the handle check, by the state and generation of the record in the handle's slot. -/
def Obligations.HandleCheckOutcomes : Prop :=
  ∀ (s : State) (h : Nat) (i : DirSlot) (forRetired : Bool), h < 65536 → i.val = h % 512 →
    let r := s.point i
    let same : Prop := r.generation = h / 512
    (r.state = .free ∨ r.state = .reserved → s.checkHandle forRetired h = .refused .staleHandle) ∧
    (r.state = .live ∨ r.state = .orphaned ∨ r.state = .retired → ¬same →
      s.checkHandle forRetired h = .refused .staleHandle) ∧
    (r.state = .live ∨ r.state = .orphaned → same → s.checkHandle forRetired h = .accepted i) ∧
    (r.state = .retired → same →
      s.checkHandle forRetired h = if forRetired then .accepted i else .refused .retired)

/-! ## Requests that report -/

/-- R22, with the check of R21: LOOKUP answers BAD_NAME, NOT_FOUND, or the record that the name map gives. -/
def Obligations.LookupAnswers : Prop :=
  ∀ (s : State) (p : PortId) (name : Text), name.length < 256 → s.asks p 0x10 (byte name.length :: name) →
    (¬lawfulFullName name → exec .lookup s = .next (s.finishGrant p ⟨.badName, []⟩)) ∧
    (lawfulFullName name → (∀ i, (name, i) ∉ s.nameMap) → exec .lookup s = .next (s.finishGrant p ⟨.notFound, []⟩)) ∧
    ∀ i, lawfulFullName name → (name, i) ∈ s.nameMap → (∀ j, (name, j) ∈ s.nameMap → j = i) →
      exec .lookup s =
        .next (s.finishGrant p
          ⟨.ok, le16 (i.val + 512 * (s.point i).generation) ++
            [(s.point i).direction.code, (s.point i).kind.code, (s.point i).state.code]⟩)

/-- R23: LIST_POINTS refuses a filter out of range, and otherwise lists the first six records from the start slot on that meet its filters,
with the next slot. -/
def Obligations.ListPointsAnswers : Prop :=
  ∀ (s : State) (p : PortId) (a b nf df : Byte), s.asks p 0x11 [a, b, nf, df] →
    let nodeOk := nf = 0xFF ∨ nf.toNat ≤ 31
    let dirOk := df = 0xFF ∨ df = 0 ∨ df = 1
    let chosen := slotsWhere fun i =>
      decide (u16 a b ≤ i.val) &&
        ((s.point i).state == .live || (s.point i).state == .orphaned || (s.point i).state == .retired) &&
        (nf == 0xFF || nf.toNat == (s.point i).nodeSlot.val) && (df == 0xFF || df == (s.point i).direction.code)
    let entry := fun i : DirSlot =>
      le16 (i.val + 512 * (s.point i).generation) ++
        [byte (s.point i).nodeSlot.val, (s.point i).direction.code, (s.point i).state.code]
    let next := match chosen[5]? with
      | some i => i.val + 1
      | none => 512
    (¬(nodeOk ∧ dirOk) → exec .listPoints s = .next (s.finishGrant p ⟨.badRequest, []⟩)) ∧
    (nodeOk ∧ dirOk →
      exec .listPoints s =
        .next (s.finishGrant p ⟨.ok, le16 next ++ byte (chosen.take 6).length :: (chosen.take 6).flatMap entry⟩))

/-- R25, R51, R159: POINT_SUMMARY reports how many records are in each state, and the five counts add up to 512; LIST_NODES reports the
state of each of the 32 node slots in order; DEVICE_INFO reports the part, in READY and in FAILED, with or without a session. -/
def Obligations.SummariesReportTheTables : Prop :=
  ∀ (s : State) (p : PortId),
    (s.asks p 0x13 [] →
      exec .pointSummary s =
        .next (s.finishGrant p
          ⟨.ok, le16 (s.recordsIn .free) ++ le16 (s.recordsIn .reserved) ++ le16 (s.recordsIn .live) ++
            le16 (s.recordsIn .orphaned) ++ le16 (s.recordsIn .retired)⟩)) ∧
    s.recordsIn .free + s.recordsIn .reserved + s.recordsIn .live + s.recordsIn .orphaned + s.recordsIn .retired = 512 ∧
    (s.asks p 0x21 [] →
      exec .listNodes s =
        .next (s.finishGrant p ⟨.ok, (List.finRange 32).map fun n => (s.node n).state.code⟩)) ∧
    (s.nextIs p 0x02 [] →
      exec .deviceInfo s =
        .next (s.finishGrant p
          ⟨.ok, [0x31, 0x0A, 0x16, 0x42, 1, 0x00, 0x02, 32, 64, 3, 2, if s.device = .failed then 2 else 1,
            byte ((s.supervisors.has .h0).toNat + 2 * (s.supervisors.has .h1).toNat +
              4 * (s.supervisors.has .h2).toNat)]⟩))

/-- R24, R50, R84, in the layouts of ch. 8.4: DESCRIBE_POINT, NODE_INFO and LINK_STATUS report one record, and change nothing. -/
def Obligations.RecordsAreReported : Prop :=
  ∀ (s : State) (p : PortId),
    (∀ a b, s.asks p 0x12 [a, b] →
      (∀ e, s.checkHandle false (u16 a b) = .refused e → exec .describePoint s = .next (s.finishGrant p ⟨e, []⟩)) ∧
      ∀ i, s.checkHandle false (u16 a b) = .accepted i →
        let r := s.point i
        let unit := r.unitText.getD []
        let name := (s.node r.nodeSlot).stationName.getD [] ++ 0x2E :: r.elementName
        exec .describePoint s =
          .next (s.finishGrant p
            ⟨.ok, [r.state.code, byte r.nodeSlot.val, byte r.elementIndex, r.kind.code, r.direction.code, byte r.width,
                byte r.imageOffset] ++ le32 r.rawLow ++ le32 r.rawHigh ++ le32 r.descriptorSafe ++ le32 r.safeValue ++
              [byte unit.length] ++ unit ++ [byte name.length] ++ name⟩)) ∧
    (∀ b, s.asks p 0x20 [b] →
      (31 < b.toNat → exec .nodeInfo s = .next (s.finishGrant p ⟨.badRequest, []⟩)) ∧
      ∀ n : NodeSlot, n.val = b.toNat →
        let r := s.node n
        let name := r.stationName.getD []
        exec .nodeInfo s =
          .next (s.finishGrant p
            ⟨.ok, [r.state.code] ++ (r.identity.typeText ++ List.replicate 4 0x20).take 4 ++ le32 r.identity.unitNumber ++
              le32 r.identity.layoutSignature ++
              [byte r.identity.elementCount, byte r.identity.inputLength, byte r.identity.outputLength,
                byte (r.identity.holdTime / 10), byte name.length] ++ name ++
              [r.incarnation, byte r.failures] ++ le16 r.retryTotal ++
              [byte (r.nodeFault.toNat + 2 * r.held.toNat + 4 * r.freshExpected.toNat + 8 * r.parkOwed.toNat),
                byte r.cursor] ++ le16 r.packedIn ++ le16 r.packedOut ++
              [refuseCode r.refuseReason, lostCauseCode r.lostCause]⟩)) ∧
    ∀ b, s.asks p 0x33 [b] →
      (1 < b.toNat → exec .linkStatus s = .next (s.finishGrant p ⟨.badRequest, []⟩)) ∧
      ∀ l : LinkId, l.toNat = b.toNat →
        let r := s.link l
        exec .linkStatus s =
          .next (s.finishGrant p
            ⟨.ok, [r.state.code, r.settings.bitRate.code, byte r.settings.period, byte r.settings.replyTimeout,
                byte r.settings.retryLimit, byte r.settings.lossLimit, byte r.settings.serviceCalls] ++
              le16 r.settings.scanSet.toNat ++ [byte (r.pendingPeriod.getD 0)] ++ le32 r.cycles ++ le16 r.lateCycles ++
              le16 r.failedCalls ++ le16 r.droppedService⟩)

/-! ## The node table -/

/-- R49, R20: NAME_NODE makes its checks in order, and otherwise gives the node the name and rekeys the name map for its LIVE and ORPHANED
records. -/
def Obligations.NameNodeRenames : Prop :=
  ∀ (s : State) (p : PortId) (b : Byte) (name : Text), name.length < 256 →
    s.supervisorAsks p 0x22 (b :: byte name.length :: name) →
    (31 < b.toNat → exec .nameNode s = .next (s.finishGrant p ⟨.badRequest, []⟩)) ∧
    ∀ n : NodeSlot, n.val = b.toNat →
      let legal := 1 ≤ name.length ∧ name.length ≤ 8 ∧ ∀ c ∈ name, legalChar c = true
      let taken := ∃ m, m ≠ n ∧ (s.node m).state ≠ .vacant ∧ (s.node m).stationName = some name
      ((s.node n).state = .vacant → exec .nameNode s = .next (s.finishGrant p ⟨.noNode, []⟩)) ∧
      ((s.node n).state ≠ .vacant → ¬legal → exec .nameNode s = .next (s.finishGrant p ⟨.badName, []⟩)) ∧
      ((s.node n).state ≠ .vacant → legal → taken → exec .nameNode s = .next (s.finishGrant p ⟨.nameInUse, []⟩)) ∧
      ((s.node n).state ≠ .vacant → legal → ¬taken → (s.node n).stationName = some name →
        exec .nameNode s = .next (s.finishGrant p ⟨.ok, []⟩)) ∧
      ((s.node n).state ≠ .vacant → legal → ¬taken → (s.node n).stationName ≠ some name →
        exec .nameNode s =
          .next
            ({ s with
                nodes := s.nodes.set n { s.node n with stationName := some name }
                nameMap := s.nameMap.map fun e : Text × DirSlot =>
                  let x := s.point e.2
                  if (x.state = PointState.live ∨ x.state = PointState.orphaned) ∧ x.nodeSlot = n then
                    (name ++ 0x2E :: x.elementName, e.2)
                  else e }.finishGrant p ⟨.ok, []⟩))

/-- R52 to R55, with the VACANT values of R28: what RESCAN_NODE, INCLUDE_NODE, EXCLUDE_NODE and FORGET_NODE do by the state of the node. What
the retirement of a node's records and the release of its reservations do is said by `RetirementOfANode`. -/
def Obligations.NodeRequestsByState : Prop :=
  ∀ (s : State) (p : PortId) (b : Byte),
    (31 < b.toNat →
      (s.supervisorAsks p 0x23 [b] → exec .rescanNode s = .next (s.finishGrant p ⟨.badRequest, []⟩)) ∧
      (s.supervisorAsks p 0x24 [b] → exec .excludeNode s = .next (s.finishGrant p ⟨.badRequest, []⟩)) ∧
      (s.supervisorAsks p 0x25 [b] → exec .includeNode s = .next (s.finishGrant p ⟨.badRequest, []⟩)) ∧
      (s.supervisorAsks p 0x26 [b] → exec .forgetNode s = .next (s.finishGrant p ⟨.badRequest, []⟩))) ∧
    ∀ n : NodeSlot, n.val = b.toNat →
      let r := s.node n
      let vacant : NodeRecord :=
        { NodeRecord.reset with incarnation := r.incarnation, retryTotal := r.retryTotal, parkOwed := r.parkOwed }
      let parked : NodeRecord := { r with state := .parked, failures := 0, lostCause := none, refuseReason := none }
      let withPoints := r.state = .online ∨ r.state = .resync ∨ r.state = .lost
      (s.supervisorAsks p 0x23 [b] →
        exec .rescanNode s =
          .next ((if r.state = .refused then s.setNode n vacant else s).finishGrant p ⟨.ok, []⟩)) ∧
      (s.supervisorAsks p 0x25 [b] →
        exec .includeNode s =
          .next ((if r.state = .parked then s.setNode n vacant else s).finishGrant p ⟨.ok, []⟩)) ∧
      (s.supervisorAsks p 0x24 [b] →
        (r.state = .parked → exec .excludeNode s = .next (s.finishGrant p ⟨.ok, []⟩)) ∧
        (r.state = .vacant ∨ r.state = .refused →
          exec .excludeNode s = .next ((s.setNode n parked).finishGrant p ⟨.ok, []⟩)) ∧
        (r.state = .describing →
          exec .excludeNode s =
            .next (((s.releaseReservations n).setNode n { parked with parkOwed := false }).finishGrant p ⟨.ok, []⟩)) ∧
        (withPoints →
          exec .excludeNode s =
            .next (((s.retireNode n).setNode n { parked with parkOwed := true }).finishGrant p ⟨.ok, []⟩))) ∧
      (s.supervisorAsks p 0x26 [b] →
        (r.state = .vacant → exec .forgetNode s = .next (s.finishGrant p ⟨.noNode, []⟩)) ∧
        (r.state = .refused ∨ r.state = .parked →
          exec .forgetNode s = .next ((s.setNode n vacant).finishGrant p ⟨.ok, []⟩)) ∧
        (r.state = .describing →
          exec .forgetNode s =
            .next (((s.releaseReservations n).setNode n { vacant with parkOwed := false }).finishGrant p ⟨.ok, []⟩)) ∧
        (withPoints →
          exec .forgetNode s =
            .next (((s.retireNode n).setNode n { vacant with parkOwed := true }).finishGrant p ⟨.ok, []⟩)))

/-- R12, R15, R16, R18, R19, R123: at the retirement of a node's records each of its LIVE or ORPHANED records takes one reportable change and
becomes RETIRED with all its watchers marked, or FREE where nobody watches it; it leaves the name map and its lease, whose lost-member count
rises by one for each. A release of reservations frees the node's RESERVED records. No other record, lease or block changes. The field
quality of a retired substituted point is the model's reading of R85 (log entry 19). -/
def Obligations.RetirementOfANode : Prop :=
  ∀ (s : State) (n : NodeSlot),
    let gone := fun i => ((s.point i).state = .live ∨ (s.point i).state = .orphaned) ∧ (s.point i).nodeSlot = n
    let t := s.retireNode n
    (∀ i, gone i → (s.point i).watch = PortSet.empty →
      t.point i = { PointRecord.reset with generation := (s.point i).generation }) ∧
    (∀ i, gone i → (s.point i).watch ≠ PortSet.empty →
      let r := s.point i
      let retired : PointRecord :=
        { r with
          state := .retired, lease := none, inFlight := none, substPort := none, revision := r.revision + 1
          mark := r.mark.union r.watch }
      t.point i =
        if r.substPort = none then retired
        else { retired with value := r.fieldValue, quality := .lost, fieldQuality := .lost }) ∧
    (∀ i, ¬gone i → t.point i = s.point i) ∧
    (∀ name i, (name, i) ∈ t.nameMap ↔ (name, i) ∈ s.nameMap ∧ ¬gone i) ∧
    (∀ k, ∃ kept lost : List DirSlot, kept.Sublist (s.leaseAt k).members ∧ (∀ i ∈ kept, ¬gone i) ∧ (∀ i ∈ lost, gone i) ∧
      kept.length + lost.length = (s.leaseAt k).members.length ∧
      (∀ i ∈ (s.leaseAt k).members, ¬gone i → i ∈ kept) ∧
      t.leaseAt k =
        { s.leaseAt k with members := kept, lostMembers := min 255 ((s.leaseAt k).lostMembers + lost.length) }) ∧
    (∀ i, (s.releaseReservations n).point i =
      if (s.point i).state = .reserved ∧ (s.point i).nodeSlot = n then
        { PointRecord.reset with generation := (s.point i).generation }
      else s.point i) ∧
    (s.releaseReservations n).leases = s.leases ∧ (s.releaseReservations n).nameMap = s.nameMap ∧
    ∀ u, u = t ∨ u = s.releaseReservations n →
      u.nodes = s.nodes ∧ u.link0 = s.link0 ∧ u.link1 = s.link1 ∧ u.device = s.device ∧ u.supervisors = s.supervisors ∧
        u.grantPointer = s.grantPointer ∧ u.pending = s.pending ∧
        ∀ q, u.port q = { s.port q with markedCount := (u.port q).markedCount }

/-- R14, R46, R95: at the loss of nodes each takes the state LOST with its cause; each of their LIVE records becomes ORPHANED with quality LOST
(a substituted point keeps its quality), takes one reportable change and marks its watchers. No other record or block changes. -/
def Obligations.LossOfNodes : Prop :=
  ∀ (s : State) (sel : NodeSlot → Bool) (cause : LostCause),
    let t := s.loseNodes sel cause
    (∀ n, t.node n =
      if sel n then { s.node n with state := .lost, lostCause := some cause, failures := 0 } else s.node n) ∧
    (∀ i, (s.point i).state ≠ .live ∨ sel (s.point i).nodeSlot = false → t.point i = s.point i) ∧
    (∀ i, (s.point i).state = .live → sel (s.point i).nodeSlot = true →
      let r := s.point i
      let orphan : PointRecord :=
        { r with state := .orphaned, revision := r.revision + 1, mark := r.mark.union r.watch }
      t.point i =
        if r.direction = .out then { orphan with quality := .lost }
        else if r.substPort = none then { orphan with quality := .lost, fieldQuality := .lost }
        else { orphan with fieldQuality := .lost }) ∧
    t.nameMap = s.nameMap ∧ t.leases = s.leases ∧ t.link0 = s.link0 ∧ t.link1 = s.link1 ∧ t.device = s.device ∧
      t.supervisors = s.supervisors ∧ t.grantPointer = s.grantPointer ∧ t.pending = s.pending ∧
      ∀ q, t.port q = { s.port q with markedCount := (t.port q).markedCount }

/-! ## Link requests -/

/-- R71, R79, R80: START_LINK and STOP_LINK by the state of the link. A start makes the four counters and the retry totals 0 (the cycle that
starts counts as the first), both cursors 1, takes a pending period into force, loads the cycle timer and lists the ONLINE addresses; a stop
ends the timer and the building of the cycle's calls. That neither grant builds a call itself (the first call of the cycle, the broadcast PARK)
is the model's choice: CALL_BUILD builds it once the guard is met (log entry 7). -/
def Obligations.StartAndStopLink : Prop :=
  ∀ (s : State) (p : PortId) (b : Byte),
    (1 < b.toNat →
      (s.supervisorAsks p 0x30 [b] → exec .startLink s = .next (s.finishGrant p ⟨.badRequest, []⟩)) ∧
      (s.supervisorAsks p 0x31 [b] → exec .stopLink s = .next (s.finishGrant p ⟨.badRequest, []⟩))) ∧
    ∀ l : LinkId, l.toNat = b.toNat →
      let r := s.link l
      (s.supervisorAsks p 0x30 [b] →
        (r.state = .running → exec .startLink s = .next (s.finishGrant p ⟨.linkRunning, []⟩)) ∧
        (r.state = .stopping → exec .startLink s = .next (s.finishGrant p ⟨.linkBusy, []⟩)) ∧
        (r.state = .off →
          ∃ t : State, exec .startLink s = .next (t.finishGrant p ⟨.ok, []⟩) ∧
            (let period := r.pendingPeriod.getD r.settings.period
             t.link l =
              { r with
                state := .running, cycles := 1, lateCycles := 0, failedCalls := 0, droppedService := 0, lostCursor := 0
                vacantCursor := 0, settings := { r.settings with period := period }, pendingPeriod := none
                cycleTimer := some period, serviceStarted := 0
                exchangeList := (List.finRange 16).filter fun a => (s.nodeAt l a).state == .online
                late := false, complete := !t.hasNextCall l }) ∧
            (∀ n, t.node n = if n.val / 16 = l.toNat then { s.node n with retryTotal := 0 } else s.node n) ∧
            t = { s with nodes := t.nodes, link0 := t.link0, link1 := t.link1 } ∧
              ∀ l', l' ≠ l → t.link l' = s.link l')) ∧
      (s.supervisorAsks p 0x31 [b] →
        (r.state = .off → exec .stopLink s = .next (s.finishGrant p ⟨.linkOff, []⟩)) ∧
        (r.state = .stopping → exec .stopLink s = .next (s.finishGrant p ⟨.linkBusy, []⟩)) ∧
        (r.state = .running →
          exec .stopLink s =
            .next ((s.setLink l { r with state := .stopping, cycleTimer := none, exchangeList := [] }).finishGrant p
              ⟨.ok, []⟩)))

/-- R82, R83, R57: SET_LINK makes its three checks over the whole record in order; accepted, it applies its settings: all at once in OFF, with
a changed period pending otherwise, and it loses the nodes whose failures reach a lowered loss limit. That a link number above 1 is answered
BAD_REQUEST also where a setting is out of range is the model's choice (log entry 25). -/
def Obligations.SetLinkChecksAndApplies : Prop :=
  ∀ (s : State) (p : PortId) (b rate period reply retry loss service m0 m1 : Byte),
    s.supervisorAsks p 0x32 [b, rate, period, reply, retry, loss, service, m0, m1] →
    (1 < b.toNat → exec .setLink s = .next (s.finishGrant p ⟨.badRequest, []⟩)) ∧
    ∀ l : LinkId, l.toNat = b.toNat →
      let r := s.link l
      let inRange := rate.toNat ≤ 3 ∧ 2 ≤ period.toNat ∧ period.toNat ≤ 250 ∧ 2 ≤ reply.toNat ∧ reply.toNat ≤ 200 ∧
        retry.toNat ≤ 3 ∧ 1 ≤ loss.toNat ∧ loss.toNat ≤ 15 ∧ 1 ≤ service.toNat ∧ service.toNat ≤ 4
      (¬inRange → exec .setLink s = .next (s.finishGrant p ⟨.badSetting, []⟩)) ∧
      (inRange → ∀ new : Settings,
        new = ⟨new.bitRate, period.toNat, reply.toNat, retry.toNat, loss.toNat, service.toNat,
            BitVec.ofNat 16 (u16 m0 m1)⟩ → new.bitRate.code = rate →
        let lineChanged := new.bitRate ≠ r.settings.bitRate ∨ new.replyTimeout ≠ r.settings.replyTimeout
        let conflict := new.period ≠ r.pendingPeriod.getD r.settings.period ∧
          ∃ n : NodeSlot, n.val / 16 = l.toNat ∧
            ((s.node n).state = .online ∨ (s.node n).state = .resync ∨ (s.node n).state = .describing) ∧
            (s.node n).identity.holdTime < 3 * new.period
        (r.state ≠ .off ∧ lineChanged → exec .setLink s = .next (s.finishGrant p ⟨.linkRunning, []⟩)) ∧
        (¬(r.state ≠ .off ∧ lineChanged) → conflict →
          exec .setLink s = .next (s.finishGrant p ⟨.settingConflict, []⟩)) ∧
        (¬(r.state ≠ .off ∧ lineChanged) → ¬conflict →
          let atLimit := fun n : NodeSlot => n.val / 16 == l.toNat &&
            ((s.node n).state == .online || (s.node n).state == .resync) && decide (new.lossLimit ≤ (s.node n).failures)
          let applied : LinkRecord :=
            if r.state = .off then { r with settings := new }
            else if new.period = r.settings.period then { r with settings := new, pendingPeriod := none }
            else
              { r with
                settings := { new with period := r.settings.period }, pendingPeriod := some new.period }
          exec .setLink s = .next (((s.setLink l applied).loseNodes atLimit .failed).finishGrant p ⟨.ok, []⟩)))

/-! ## Values -/

/-- R97, in the layout of ch. 8.4: READ refuses a count outside 1 to 4, and otherwise reports one entry per handle in order, of which every
field is 0 where the handle is refused. It changes nothing. -/
def Obligations.ReadReports : Prop :=
  ∀ (s : State) (p : PortId) (hs : List Nat), (∀ h ∈ hs, h < 65536) → hs.length < 256 → s.asks p 0x40 (countedHandles hs) →
    let entry := fun h =>
      match s.checkHandle false h with
      | .refused e => [e.code, 0, 0, 0, 0, 0, 0, 0, 0, 0, 0, 0, 0]
      | .accepted i =>
        let r := s.point i
        if r.direction = .inp then
          [0x00] ++ le32 r.value ++ [r.quality.code] ++ le16 r.revision.toNat ++ le32 r.fieldValue ++ [0]
        else
          [0x00] ++ le32 r.demand ++ [r.quality.code] ++ le16 r.revision.toNat ++ le32 (r.applied.getD 0) ++
            [if r.applied = none then 2 else if r.pending then 1 else 0]
    (hs.length = 0 ∨ 4 < hs.length → exec .read s = .next (s.finishGrant p ⟨.badRequest, []⟩)) ∧
    (1 ≤ hs.length → hs.length ≤ 4 →
      exec .read s = .next (s.finishGrant p ⟨.ok, byte hs.length :: hs.flatMap entry⟩))

/-- R98, R99: WRITE makes its checks in order, each over all its pairs; passed, each point named takes the value of its last pair as demand
and its pending is recomputed. -/
def Obligations.WriteChecksAndWrites : Prop :=
  ∀ (s : State) (p : PortId) (ix sn : Byte) (vs : List (Nat × Word32)), (∀ e ∈ vs, e.1 < 65536) → vs.length < 256 →
    s.asks p 0x41 (ix :: sn :: countedValues vs) →
    let ends := fun res => exec .write s = .next (s.finishGrant p ⟨res, []⟩)
    (vs.length = 0 ∨ 8 < vs.length → ends .badRequest) ∧
    (1 ≤ vs.length → vs.length ≤ 8 →
      ((∀ k, ¬(s.namesLease ix sn k ∧ (s.leaseAt k).holder = some p)) → ends .badLease) ∧
      ∀ k, s.namesLease ix sn k → (s.leaseAt k).holder = some p →
        ((s.leaseAt k).state = .lapsed → ends .lapsed) ∧
        ((s.leaseAt k).state ≠ .lapsed →
          (∀ good bad rest e, vs.map Prod.fst = good ++ bad :: rest →
            (∀ h ∈ good, ∃ i, s.checkHandle false h = .accepted i) → s.checkHandle false bad = .refused e → ends e) ∧
          ∀ pts : List DirSlot, List.Forall₂ (fun h i => s.checkHandle false h = .accepted i) (vs.map Prod.fst) pts →
            let allOut := ∀ i ∈ pts, (s.point i).direction = .out
            let allMine := ∀ i ∈ pts, (s.point i).lease = some k
            let oneNode := ∀ i ∈ pts, ∀ j ∈ pts, (s.point i).nodeSlot = (s.point j).nodeSlot
            let reachable := ∀ i ∈ pts,
              (s.node (s.point i).nodeSlot).state = .online ∨ (s.node (s.point i).nodeSlot).state = .resync
            let pairs := pts.zip (vs.map Prod.snd)
            let legal := ∀ e ∈ pairs, (s.point e.1).inRange e.2 = true
            (¬allOut → ends .wrongDirection) ∧ (allOut → ¬allMine → ends .notHeld) ∧
            (allOut → allMine → ¬oneNode → ends .mixedNodes) ∧
            (allOut → allMine → oneNode → ¬reachable → ends .notOnline) ∧
            (allOut → allMine → oneNode → reachable → ¬legal → ends .range) ∧
            (allOut → allMine → oneNode → reachable → legal →
              exec .write s =
                .next ((s.event fun i r =>
                  match pairs.reverse.find? fun e => e.1 == i with
                  | some e => { r with demand := e.2, pending := r.applied != some e.2 }
                  | none => r).finishGrant p ⟨.ok, []⟩))))

/-- R101: SET_SAFE makes its six checks in order; passed, the point's safe value becomes the given value and nothing else changes. -/
def Obligations.SetSafeChecksAndSets : Prop :=
  ∀ (s : State) (p : PortId) (ix sn a b v0 v1 v2 v3 : Byte), s.asks p 0x42 [ix, sn, a, b, v0, v1, v2, v3] →
    let v := w32 v0 v1 v2 v3
    let ends := fun res => exec .setSafe s = .next (s.finishGrant p ⟨res, []⟩)
    ((∀ k, ¬(s.namesLease ix sn k ∧ (s.leaseAt k).holder = some p)) → ends .badLease) ∧
    ∀ k, s.namesLease ix sn k → (s.leaseAt k).holder = some p →
      ((s.leaseAt k).state = .lapsed → ends .lapsed) ∧
      ((s.leaseAt k).state ≠ .lapsed →
        (∀ e, s.checkHandle false (u16 a b) = .refused e → ends e) ∧
        ∀ i, s.checkHandle false (u16 a b) = .accepted i →
          let r := s.point i
          (r.direction = .inp → ends .wrongDirection) ∧ (r.direction = .out → r.lease ≠ some k → ends .notHeld) ∧
          (r.direction = .out → r.lease = some k → r.inRange v = false → ends .range) ∧
          (r.direction = .out → r.lease = some k → r.inRange v = true →
            exec .setSafe s =
              .next ({ s with points := s.points.set i { r with safeValue := v } }.finishGrant p ⟨.ok, []⟩)))

/-- R88, R102, R104: SUBSTITUTE and UNSUBSTITUTE make their checks in order; a substitute shows its value with quality SUBSTITUTED, and its end
shows the field's value and quality. -/
def Obligations.SubstituteAndUnsubstitute : Prop :=
  ∀ (s : State) (p : PortId) (a b : Byte),
    (∀ v0 v1 v2 v3 : Byte, s.supervisorAsks p 0x43 [a, b, v0, v1, v2, v3] →
      let v := w32 v0 v1 v2 v3
      (∀ e, s.checkHandle false (u16 a b) = .refused e → exec .substitute s = .next (s.finishGrant p ⟨e, []⟩)) ∧
      ∀ i, s.checkHandle false (u16 a b) = .accepted i →
        let r := s.point i
        let legal := match r.kind with
          | .flag => v.toNat ≤ 1
          | .bits => v.toNat ≤ 2 ^ r.width - 1
          | .unsigned => r.rawLow.toNat ≤ v.toNat ∧ v.toNat ≤ r.rawHigh.toNat
          | .signed => r.rawLow.toInt ≤ v.toInt ∧ v.toInt ≤ r.rawHigh.toInt
          | .pad => False
        (r.direction = .out → exec .substitute s = .next (s.finishGrant p ⟨.wrongDirection, []⟩)) ∧
        (r.direction = .inp → ¬legal → exec .substitute s = .next (s.finishGrant p ⟨.range, []⟩)) ∧
        (r.direction = .inp → legal →
          exec .substitute s =
            .next ((s.event fun j x =>
              if j = i then { x with value := v, quality := .substituted, substPort := some p } else x).finishGrant p
                ⟨.ok, []⟩))) ∧
    (s.supervisorAsks p 0x44 [a, b] →
      (∀ e, s.checkHandle false (u16 a b) = .refused e → exec .unsubstitute s = .next (s.finishGrant p ⟨e, []⟩)) ∧
      ∀ i, s.checkHandle false (u16 a b) = .accepted i →
        ((s.point i).direction = .out → exec .unsubstitute s = .next (s.finishGrant p ⟨.wrongDirection, []⟩)) ∧
        ((s.point i).direction = .inp → (s.point i).substPort = none →
          exec .unsubstitute s = .next (s.finishGrant p ⟨.ok, []⟩)) ∧
        ((s.point i).direction = .inp → (s.point i).substPort ≠ none →
          exec .unsubstitute s =
            .next ((s.event fun j x =>
              if j = i then { x with value := x.fieldValue, quality := x.fieldQuality, substPort := none } else x).finishGrant p
                ⟨.ok, []⟩)))

/-! ## Leases -/

/-- R111 with the serial of R106: OPEN_LEASE refuses a term outside 20 to 60000, answers NO_LEASE when no record is FREE, and otherwise opens
the lowest FREE record for the requester with the next serial. -/
def Obligations.OpenLeaseTakesTheLowestFree : Prop :=
  ∀ (s : State) (p : PortId) (a b : Byte), s.asks p 0x50 [a, b] →
    let term := u16 a b
    (term < 20 ∨ 60000 < term → exec .openLease s = .next (s.finishGrant p ⟨.badSetting, []⟩)) ∧
    (20 ≤ term → term ≤ 60000 → (∀ k, (s.leaseAt k).state ≠ .free) →
      exec .openLease s = .next (s.finishGrant p ⟨.noLease, []⟩)) ∧
    (20 ≤ term → term ≤ 60000 → ∀ k, (s.leaseAt k).state = .free → (∀ j, j < k → (s.leaseAt j).state ≠ .free) →
      let serial := if (s.leaseAt k).serial < 255 then (s.leaseAt k).serial + 1 else 1
      exec .openLease s =
        .next ((s.setLease k ⟨.held, serial, some p, term, term, [], 0, none⟩).finishGrant p
          ⟨.ok, [byte k.val, byte serial]⟩))

/-- R112, R113: CLAIM makes its checks in order, each over all its points; passed, each point that is not a member joins at the end of the
list in request order, and its lease field is set. -/
def Obligations.ClaimChecksAndJoins : Prop :=
  ∀ (s : State) (p : PortId) (ix sn : Byte) (hs : List Nat), (∀ h ∈ hs, h < 65536) → hs.length < 256 →
    s.asks p 0x51 (ix :: sn :: countedHandles hs) →
    let ends := fun res => exec .claim s = .next (s.finishGrant p ⟨res, []⟩)
    (hs.length = 0 ∨ 8 < hs.length → ends .badRequest) ∧
    (1 ≤ hs.length → hs.length ≤ 8 →
      ((∀ k, ¬(s.namesLease ix sn k ∧ (s.leaseAt k).holder = some p)) → ends .badLease) ∧
      ∀ k, s.namesLease ix sn k → (s.leaseAt k).holder = some p →
        ((s.leaseAt k).state = .lapsed → ends .lapsed) ∧
        ((s.leaseAt k).state ≠ .lapsed →
          (∀ good bad rest e, hs = good ++ bad :: rest → (∀ h ∈ good, ∃ i, s.checkHandle false h = .accepted i) →
            s.checkHandle false bad = .refused e → ends e) ∧
          ∀ pts : List DirSlot, List.Forall₂ (fun h i => s.checkHandle false h = .accepted i) hs pts →
            let allOut := ∀ i ∈ pts, (s.point i).direction = .out
            let mineOrFree := fun i => (s.point i).lease = none ∨ (s.point i).lease = some k
            let old := (s.leaseAt k).members
            let members := old ++ (pts.filter fun i => !old.contains i).eraseDups
            (¬allOut → ends .wrongDirection) ∧
            (allOut → ∀ before i after k' q, pts = before ++ i :: after → (∀ j ∈ before, mineOrFree j) →
              (s.point i).lease = some k' → k' ≠ k → (s.leaseAt k').holder = some q →
              exec .claim s =
                .next (s.finishGrant p
                  ⟨.heldElsewhere, le16 (i.val + 512 * (s.point i).generation) ++ [byte q.toNat]⟩)) ∧
            (allOut → (∀ i ∈ pts, mineOrFree i) → 32 < members.length → ends .leaseFull) ∧
            (allOut → (∀ i ∈ pts, mineOrFree i) → members.length ≤ 32 →
              exec .claim s =
                .next (((s.event fun i r => if pts.contains i then { r with lease := some k } else r).setLease k
                  { s.leaseAt k with members := members }).finishGrant p ⟨.ok, []⟩))))

/-- R117, R118: RELEASE gives one result per entry in order; each member named leaves the lease once, with its lease absent and its demand at
its safe value, and the other members keep their order. -/
def Obligations.ReleaseLetsMembersGo : Prop :=
  ∀ (s : State) (p : PortId) (ix sn : Byte) (hs : List Nat), (∀ h ∈ hs, h < 65536) → hs.length < 256 →
    s.asks p 0x52 (ix :: sn :: countedHandles hs) →
    (hs.length = 0 ∨ 8 < hs.length → exec .release s = .next (s.finishGrant p ⟨.badRequest, []⟩)) ∧
    (1 ≤ hs.length → hs.length ≤ 8 →
      ((∀ k, ¬(s.namesLease ix sn k ∧ (s.leaseAt k).holder = some p)) →
        exec .release s = .next (s.finishGrant p ⟨.badLease, []⟩)) ∧
      ∀ k, s.namesLease ix sn k → (s.leaseAt k).holder = some p →
        let old := (s.leaseAt k).members
        let named := fun (some_hs : List Nat) (i : DirSlot) => some_hs.any fun h => s.checkHandle false h == .accepted i
        let results := hs.mapIdx fun j h =>
          match s.checkHandle false h with
          | .refused e => e
          | .accepted i => if old.contains i && !named (hs.take j) i then .ok else .notHeld
        exec .release s =
          .next (((s.event fun i r =>
              if old.contains i && named hs i then
                { r with lease := none, demand := r.safeValue, pending := r.applied != some r.safeValue }
              else r).setLease k
            { s.leaseAt k with members := old.filter fun i => !named hs i }).finishGrant p
              ⟨.ok, byte hs.length :: results.map Result.code⟩))

/-- R115: RENEW answers BAD_LEASE, LAPSED, or OK with the lost-member count, which becomes 0, while the remaining time becomes the term and
nothing else changes. -/
def Obligations.RenewRestartsTheTerm : Prop :=
  ∀ (s : State) (p : PortId) (ix sn : Byte), s.asks p 0x53 [ix, sn] →
    ((∀ k, ¬(s.namesLease ix sn k ∧ (s.leaseAt k).holder = some p)) →
      exec .renew s = .next (s.finishGrant p ⟨.badLease, []⟩)) ∧
    ∀ k, s.namesLease ix sn k → (s.leaseAt k).holder = some p →
      ((s.leaseAt k).state = .lapsed → exec .renew s = .next (s.finishGrant p ⟨.lapsed, []⟩)) ∧
      ((s.leaseAt k).state = .held →
        exec .renew s =
          .next ((s.setLease k { s.leaseAt k with remaining := (s.leaseAt k).term, lostMembers := 0 }).finishGrant p
            ⟨.ok, [byte (s.leaseAt k).lostMembers]⟩))

/-- R117, R119, R120, R121: CLOSE_LEASE of the holder releases the members and frees the record with its serial kept; REVOKE of a supervisor
releases them and leaves the record LAPSED with the cause REVOKED; each release sets demand to the safe value. -/
def Obligations.CloseAndRevokeReleaseMembers : Prop :=
  ∀ (s : State) (p : PortId) (ix sn : Byte),
    let released := fun k : LeaseIndex => s.event fun i r =>
      if (s.leaseAt k).members.contains i then
        { r with lease := none, demand := r.safeValue, pending := r.applied != some r.safeValue }
      else r
    (s.asks p 0x54 [ix, sn] →
      ((∀ k, ¬(s.namesLease ix sn k ∧ (s.leaseAt k).holder = some p)) →
        exec .closeLease s = .next (s.finishGrant p ⟨.badLease, []⟩)) ∧
      ∀ k, s.namesLease ix sn k → (s.leaseAt k).holder = some p →
        exec .closeLease s =
          .next (((released k).setLease k ⟨.free, (s.leaseAt k).serial, none, 0, 0, [], 0, none⟩).finishGrant p ⟨.ok, []⟩)) ∧
    (s.supervisorAsks p 0x55 [ix, sn] →
      ((∀ k, ¬s.namesLease ix sn k) → exec .revoke s = .next (s.finishGrant p ⟨.badLease, []⟩)) ∧
      ∀ k, s.namesLease ix sn k →
        ((s.leaseAt k).state = .lapsed → exec .revoke s = .next (s.finishGrant p ⟨.lapsed, []⟩)) ∧
        ((s.leaseAt k).state = .held →
          exec .revoke s =
            .next (((released k).setLease k
              { s.leaseAt k with state := .lapsed, members := [], cause := some .revoked, remaining := 0 }).finishGrant p
                ⟨.ok, []⟩)))

/-- R125, in the layout of ch. 8.4: LEASE_INFO makes its checks in order and otherwise reports the lease with up to 16 members from the
first-member index on. It changes nothing. -/
def Obligations.LeaseInfoReports : Prop :=
  ∀ (s : State) (p : PortId) (ix sn first : Byte), s.asks p 0x56 [ix, sn, first] →
    (31 < first.toNat → exec .leaseInfo s = .next (s.finishGrant p ⟨.badRequest, []⟩)) ∧
    (first.toNat ≤ 31 →
      ((∀ k, ¬s.namesLease ix sn k) → exec .leaseInfo s = .next (s.finishGrant p ⟨.badLease, []⟩)) ∧
      ∀ k, s.namesLease ix sn k →
        let r := s.leaseAt k
        (r.holder ≠ some p → s.isSupervisor p = false →
          exec .leaseInfo s = .next (s.finishGrant p ⟨.notPermitted, []⟩)) ∧
        ∀ q, r.holder = some q → (q = p ∨ s.isSupervisor p = true) →
          let shown := (r.members.drop first.toNat).take 16
          exec .leaseInfo s =
            .next (s.finishGrant p
              ⟨.ok, [r.state.code, byte q.toNat] ++ le16 r.term ++ le16 r.remaining ++
                [byte r.lostMembers, lapseCauseCode r.cause, byte r.members.length, first, byte shown.length] ++
                shown.flatMap fun i => le16 (i.val + 512 * (s.point i).generation)⟩))

/-! ## Watches and marks -/

/-- R126, R127, R128, R129: at the end of an event the changes of a record are reportable or not; a reportable change raises the revision by
one, moves the mark reference of an IN record whose value changed (but for a retirement), and marks every watcher; otherwise the record is as
the event left it. The marked counts follow the marks in every update of the records. That the mark reference stays where a substitute set or
ended leaves the value equal is the model's choice (log entry 26). -/
def Obligations.EventReportsOnce : Prop :=
  ∀ (s : State) (f : DirSlot → PointRecord → PointRecord),
    (∀ i,
      let before := s.point i
      let after := f i before
      let moved := after.value ≠ before.value
      let passes := after.kind = .flag ∨ after.kind = .bits ∨ after.deadband = 0 ∨
        (after.deadband : Int) ≤ |readAs after.kind after.value - readAs after.kind after.markRef|
      let reportable := after.quality ≠ before.quality ∨ after.state ≠ before.state ∨
        (after.direction = .out ∧
          (after.lease ≠ before.lease ∨ after.demand ≠ before.demand ∨ after.applied ≠ before.applied)) ∨
        (after.direction = .inp ∧
          ((moved ∧ (passes ∨ after.substPort ≠ none)) ∨ after.substPort ≠ before.substPort))
      (reportable → (s.event f).point i =
        { after with
          revision := after.revision + 1, mark := after.mark.union after.watch
          markRef := (s.event f).point i |>.markRef } ∧
        (after.direction = .inp → moved → after.state ≠ .retired → ((s.event f).point i).markRef = after.value) ∧
        (¬(after.direction = .inp ∧ moved ∧ after.state ≠ .retired) → ((s.event f).point i).markRef = after.markRef)) ∧
      (¬reportable → (s.event f).point i = after)) ∧
    ∀ p, (s.port p).markedCount = s.marksOf p →
      ((s.event f).port p).markedCount = (s.event f).marksOf p ∧
        ((s.updatePoints f).port p).markedCount = (s.updatePoints f).marksOf p

/-- R131, R132, R17, R18: WATCH and UNWATCH take their entries in turn. WATCH adds the port to the watch set and the mark set of a LIVE or
ORPHANED record; UNWATCH removes it from both, and frees a RETIRED record whose last mark it removes. Neither makes a reportable change. -/
def Obligations.WatchAndUnwatchInTurn : Prop :=
  ∀ (s : State) (p : PortId) (hs : List Nat), (∀ h ∈ hs, h < 65536) → hs.length < 256 →
    let watchOne := fun (u : State) (h : Nat) =>
      match u.checkHandle false h with
      | .refused e => (u, e)
      | .accepted i =>
        (u.updatePoints fun j r => if j = i then { r with watch := r.watch.add p, mark := r.mark.add p } else r, .ok)
    let unwatchOne := fun (u : State) (h : Nat) =>
      match u.checkHandle true h with
      | .refused e => (u, e)
      | .accepted i =>
        (u.updatePoints fun j r =>
          if j = i then
            if r.state = .retired ∧ r.mark.has p = true ∧ (r.mark.drop p).isEmpty = true then
              { PointRecord.reset with generation := r.generation }
            else { r with watch := r.watch.drop p, mark := r.mark.drop p }
          else r, .ok)
    (s.asks p 0x60 (countedHandles hs) →
      (hs.length = 0 ∨ 8 < hs.length → exec .watch s = .next (s.finishGrant p ⟨.badRequest, []⟩)) ∧
      (1 ≤ hs.length → hs.length ≤ 8 →
        exec .watch s =
          .next ((takenInTurn watchOne s hs).1.finishGrant p
            ⟨.ok, byte hs.length :: (takenInTurn watchOne s hs).2.map Result.code⟩))) ∧
    (s.asks p 0x61 (countedHandles hs) →
      (hs.length = 0 ∨ 8 < hs.length → exec .unwatch s = .next (s.finishGrant p ⟨.badRequest, []⟩)) ∧
      (1 ≤ hs.length → hs.length ≤ 8 →
        exec .unwatch s =
          .next ((takenInTurn unwatchOne s hs).1.finishGrant p
            ⟨.ok, byte hs.length :: (takenInTurn unwatchOne s hs).2.map Result.code⟩)))

/-- R133: SET_DEADBAND makes its checks in order; passed, the deadband becomes the given value and the mark reference the value that stands,
and nothing else changes. -/
def Obligations.SetDeadbandRestartsTheReference : Prop :=
  ∀ (s : State) (p : PortId) (a b c d : Byte), s.asks p 0x62 [a, b, c, d] →
    (∀ e, s.checkHandle false (u16 a b) = .refused e → exec .setDeadband s = .next (s.finishGrant p ⟨e, []⟩)) ∧
    ∀ i, s.checkHandle false (u16 a b) = .accepted i →
      let r := s.point i
      (r.direction = .out → exec .setDeadband s = .next (s.finishGrant p ⟨.wrongDirection, []⟩)) ∧
      (r.direction = .inp → r.kind = .flag ∨ r.kind = .bits →
        exec .setDeadband s = .next (s.finishGrant p ⟨.badRequest, []⟩)) ∧
      (r.direction = .inp → r.kind ≠ .flag → r.kind ≠ .bits →
        exec .setDeadband s =
          .next ({ s with points := s.points.set i { r with deadband := u16 c d, markRef := r.value } }.finishGrant p
            ⟨.ok, []⟩))

/-- R134, R135: NEXT_CHANGES reports the first five marked records from the scan cursor on, wrapping at slot 511, with the marked count, and
moves the cursor past the last of them. It removes no mark and changes no record. An OUT record is reported with its applied value, as R135
says, a RETIRED one too: R110 says otherwise of that one, and following R135 there is the model's choice (log entry 28). -/
def Obligations.NextChangesScansFromTheCursor : Prop :=
  ∀ (s : State) (p : PortId), s.asks p 0x63 [] →
    let r := s.port p
    let order := (List.finRange 512).drop r.scanCursor.val ++ (List.finRange 512).take r.scanCursor.val
    let chosen := (order.filter fun i => (s.point i).mark.has p).take 5
    let entry := fun i : DirSlot =>
      let x := s.point i
      le16 (i.val + 512 * x.generation) ++ [x.state.code] ++
        (if x.direction = .inp then le32 x.value ++ [0] else le32 (x.applied.getD 0) ++ [if x.applied = none then 1 else 0]) ++
        [x.quality.code] ++ le16 x.revision.toNat
    let cursor := match chosen.getLast? with
      | some i => i + 1
      | none => r.scanCursor
    exec .nextChanges s =
      .next ((s.setPort p { r with scanCursor := cursor }).finishGrant p
        ⟨.ok, le16 r.markedCount ++ byte chosen.length :: chosen.flatMap entry⟩)

/-- R136, R138, R17, R18: ACK_CHANGES takes its pairs in turn. A mark whose revision is named is removed; on a RETIRED record the watch goes with
it, and the record becomes FREE with its last mark. No mark gives OK, another revision CHANGED. -/
def Obligations.AckChangesInTurn : Prop :=
  ∀ (s : State) (p : PortId) (acks : List (Nat × BitVec 16)), (∀ e ∈ acks, e.1 < 65536) → acks.length < 256 →
    s.asks p 0x64 (countedRevisions acks) →
    let ackOne := fun (u : State) (e : Nat × BitVec 16) =>
      match u.checkHandle true e.1 with
      | .refused res => (u, res)
      | .accepted i =>
        if (u.point i).mark.has p = false then (u, .ok)
        else if (u.point i).revision ≠ e.2 then (u, .changed)
        else
          (u.updatePoints fun j r =>
            if j = i then
              if r.state ≠ .retired then { r with mark := r.mark.drop p }
              else if (r.mark.drop p).isEmpty = true then { PointRecord.reset with generation := r.generation }
              else { r with watch := r.watch.drop p, mark := r.mark.drop p }
            else r, .ok)
    (acks.length = 0 ∨ 8 < acks.length → exec .ackChanges s = .next (s.finishGrant p ⟨.badRequest, []⟩)) ∧
    (1 ≤ acks.length → acks.length ≤ 8 →
      exec .ackChanges s =
        .next ((takenInTurn ackOne s acks).1.finishGrant p
          ⟨.ok, byte acks.length :: (takenInTurn ackOne s acks).2.map Result.code⟩))

/-! ## Sessions and attention -/

/-- R156, R157, with R105, R117, R124, R139: OPEN_SESSION opens the session and enables both settings of the attention mask, after a close where
one was open; CLOSE_SESSION closes it; a close ends the port's leases, substitutions, watches and marks, and nothing of the other ports but
the counts of the marks its changes set. -/
def Obligations.SessionsOpenAndClose : Prop :=
  ∀ (s : State) (p : PortId),
    let opened := fun u : State =>
      (u.setPort p { u.port p with sessionOpen := true, marksEnabled := true, lapsesEnabled := true }).finishGrant p
        ⟨.ok, [byte p.toNat, if s.supervisors.has p then 1 else 0, 0x00, 0x02, 32, 64, 3, 2]⟩
    let t := s.closeSession p
    let mine := fun k : LeaseIndex => (s.leaseAt k).state != .free && (s.leaseAt k).holder == some p
    let member := fun i : DirSlot => (List.finRange 64).any fun k => mine k && (s.leaseAt k).members.contains i
    let released := fun i : DirSlot => fun r : PointRecord =>
      if member i then
        { r with lease := none, demand := r.safeValue, pending := r.applied != some r.safeValue }
      else r
    let ended := fun r : PointRecord =>
      if r.substPort = some p then { r with value := r.fieldValue, quality := r.fieldQuality, substPort := none } else r
    let unwatched := fun r : PointRecord =>
      if r.state = .retired ∧ r.mark.has p = true ∧ (r.mark.drop p).isEmpty = true then
        { PointRecord.reset with generation := r.generation }
      else { r with watch := r.watch.drop p, mark := r.mark.drop p }
    (s.device = .ready → s.nextIs p 0x03 [] →
      ((s.port p).sessionOpen = false → exec .openSession s = .next (opened s)) ∧
      ((s.port p).sessionOpen = true → exec .openSession s = .next (opened t))) ∧
    (s.asks p 0x04 [] → exec .closeSession s = .next (t.finishGrant p ⟨.ok, []⟩)) ∧
    (∀ k, t.leaseAt k =
      if mine k then ⟨.free, (s.leaseAt k).serial, none, 0, 0, [], 0, none⟩ else s.leaseAt k) ∧
    (∀ i, t.point i = unwatched ((s.event fun i r => ended (released i r)).point i)) ∧
    t.port p = { s.port p with markedCount := 0, scanCursor := 0, sessionOpen := false } ∧
    (∀ q, q ≠ p → t.port q = { s.port q with markedCount := (t.port q).markedCount }) ∧
    t = { s with points := t.points, leases := t.leases, port0 := t.port0, port1 := t.port1, port2 := t.port2 }

/-- R151: SET_ATTENTION refuses a setting other than 0 and 1, and otherwise sets the port's attention mask and nothing else, so that ATTNn
follows it. -/
def Obligations.SetAttentionSetsTheMask : Prop :=
  ∀ (s : State) (p : PortId) (m l : Byte), s.asks p 0x05 [m, l] →
    (1 < m.toNat ∨ 1 < l.toNat → exec .setAttention s = .next (s.finishGrant p ⟨.badRequest, []⟩)) ∧
    (m.toNat ≤ 1 → l.toNat ≤ 1 →
      exec .setAttention s =
        .next ((s.setPort p { s.port p with marksEnabled := m == 1, lapsesEnabled := l == 1 }).finishGrant p ⟨.ok, []⟩))

/-! ## Time -/

/-- R71, R114, R120: at a tick of the time base every HELD lease counts down by 1; one that reaches 0 lapses with the cause EXPIRED and its
members are released; FREE and LAPSED leases stay; the running cycle timers count. That LEASE_EXPIRY is the whole tick at which its lease
expires is the model's choice (log entry 5). -/
def Obligations.TickCountsAndExpires : Prop :=
  ∀ s : State, ∃ t, exec .leaseClockTick s = .next t ∧
    (let expires := fun k : LeaseIndex => (s.leaseAt k).state == .held && decide ((s.leaseAt k).remaining ≤ 1)
     let member := fun i : DirSlot => (List.finRange 64).any fun k => expires k && (s.leaseAt k).members.contains i
     (∀ k, t.leaseAt k =
        if expires k then
          { s.leaseAt k with state := .lapsed, members := [], cause := some .expired, remaining := 0 }
        else if (s.leaseAt k).state = .held then { s.leaseAt k with remaining := (s.leaseAt k).remaining - 1 }
        else s.leaseAt k) ∧
      (∀ l, t.link l = { s.link l with cycleTimer := (s.link l).cycleTimer.map fun n => n - 1 }) ∧
      (let u := s.event fun i r =>
         if member i then
           { r with lease := none, demand := r.safeValue, pending := r.applied != some r.safeValue }
         else r
       t = { u with leases := t.leases, link0 := t.link0, link1 := t.link1 }) ∧
      ∀ k : LeaseIndex, expires k = true → exec (.leaseExpiry k.val) s = .next t)

/-- R71, R75, R76: the expiry of the cycle timer of a RUNNING link starts the next cycle when the cycle is complete, taking a pending period
into force and listing the ONLINE addresses. Otherwise it is late: it is counted, with the service turns it drops, and stops the timer, while
a call is in flight or an exchange-class call is left. A late expiry that finds neither starts the next cycle at once: the model's reading (log
entry 8). Before the timer has counted its ticks there is no expiry (log entry 6). -/
def Obligations.CycleTimerStartsOrIsLate : Prop :=
  ∀ (s : State) (l : LinkId),
    let r := s.link l
    r.state = .running → r.cycleTimer = some 0 →
    (r.complete = true →
      ∃ t : State, exec (.cycleTimerExpiry l) s = .next t ∧ t = s.setLink l (t.link l) ∧
        (let period := r.pendingPeriod.getD r.settings.period
         t.link l =
          { r with
            settings := { r.settings with period := period }, pendingPeriod := none, cycleTimer := some period
            cycles := r.cycles + 1, serviceStarted := 0
            exchangeList := (List.finRange 16).filter fun a => (s.nodeAt l a).state == .online
            late := false, complete := !t.hasNextCall l })) ∧
    (r.complete = false → (r.call ≠ none ∨ ∃ a ∈ r.exchangeList, (s.nodeAt l a).state = .online) →
      exec (.cycleTimerExpiry l) s =
        .next (s.setLink l
          { r with
            lateCycles := min 65535 (r.lateCycles + 1)
            droppedService := min 65535 (r.droppedService + (r.settings.serviceCalls - r.serviceStarted))
            late := true, cycleTimer := none })) ∧
    (r.complete = false → r.call = none → (∀ a ∈ r.exchangeList, (s.nodeAt l a).state ≠ .online) →
      ∃ t : State, exec (.cycleTimerExpiry l) s = .next t ∧
        s.startsCycle l
          { r with
            lateCycles := min 65535 (r.lateCycles + 1)
            droppedService := min 65535 (r.droppedService + (r.settings.serviceCalls - r.serviceStarted)) } t)

/-- R72, R73, R75, R76: where a RUNNING link has no call in flight, the cycle goes on while an address of its exchange list is ONLINE, or a
service turn is available and a class has a qualifying address; otherwise a late cycle gives way to the next one, and a cycle in time is
complete. The moments at which this is decided (a cycle start, a completion, a late expiry, a CALL_BUILD) are the model's reading (log entry
9). -/
def Obligations.CycleGoesOnOrEnds : Prop :=
  ∀ (s : State) (l : LinkId),
    let r := s.link l
    let serves := fun a : NodeAddr =>
      let n := s.nodeAt l a
      ((n.state = .vacant ∨ n.state = .parked) ∧ n.parkOwed = true) ∨ n.state = .resync ∨ n.state = .describing ∨
        n.state = .lost ∨ (n.state = .vacant ∧ n.parkOwed = false ∧ r.settings.scanSet.getLsbD a.val = true)
    let left := (∃ a ∈ r.exchangeList, (s.nodeAt l a).state = .online) ∨
      (r.late = false ∧ r.serviceStarted < r.settings.serviceCalls ∧ ∃ a, serves a)
    (s.hasNextCall l = true ↔ left) ∧
    (r.state ≠ .running ∨ left → s.proceed l = s) ∧
    (r.state = .running → ¬left → r.late = false → s.proceed l = s.setLink l { r with complete := true }) ∧
    (r.state = .running → ¬left → r.late = true →
      ∃ t : State, s.proceed l = t ∧ s.startsCycle l r t)

/-! ## Calls on the field links -/

/-- R77, R89: the output image has the node's output length and carries the demand of each LIVE OUT record at its offset, 0 elsewhere; the value
extracted for a point is its bits of the input image, filled above the width with 0, or with the top bit for a SIGNED point. -/
def Obligations.ImagesCarryTheBits : Prop :=
  (∀ (s : State) (n : NodeSlot),
    (s.outputImage n).length = (s.node n).identity.outputLength ∧
    ∀ k, k < 8 * (s.node n).identity.outputLength →
      (imageBit (s.outputImage n) k = true ↔
        ∃ i, (s.point i).state = .live ∧ (s.point i).direction = .out ∧ (s.point i).nodeSlot = n ∧
          (s.point i).imageOffset ≤ k ∧ k < (s.point i).imageOffset + (s.point i).width ∧
          (s.point i).demand.getLsbD (k - (s.point i).imageOffset) = true)) ∧
  ∀ (r : PointRecord) (image : List Byte) (k : Nat), 1 ≤ r.width → r.width ≤ 32 → k < 32 →
    (r.extracted image).getLsbD k =
      if k < r.width then imageBit image (r.imageOffset + k)
      else if r.kind = .signed then imageBit image (r.imageOffset + r.width - 1)
      else false

/-- R63 to R65, R72 to R74, R77, R80: CALL_BUILD on a RUNNING link with an unfinished cycle and no call in flight builds the exchange-class call of
the next ONLINE address of the exchange list, and after these the service call of the first class with a qualifying address; on a STOPPING link
it builds the broadcast PARK. The new call carries the toggled sequence bit and the retry limit in force. A CALL_BUILD that finds nothing left to
build ends the cycle: it is complete, or the next one starts if it was late (the model's reading, log entry 9). -/
def Obligations.CallBuildChoosesTheCall : Prop :=
  ∀ (s : State) (l : LinkId),
    let r := s.link l
    let call := fun (a : NodeAddr) (kind : CallKind) (payload : List Byte) =>
      (⟨some a, kind, !r.seqBits[a], payload, r.settings.retryLimit, true, (s.nodeAt l a).identity.inputLength,
        (s.nodeAt l a).state == .vacant⟩ : Call)
    r.call = none →
    (r.state = .running → r.complete = false →
      (∀ passed a rest, r.exchangeList = passed ++ a :: rest → (∀ b ∈ passed, (s.nodeAt l b).state ≠ .online) →
        (s.nodeAt l a).state = .online →
        let n := nodeSlotOf l a
        let linked := fun (u : State) (kind : CallKind) (payload : List Byte) =>
          u.setLink l
            { r with exchangeList := rest, seqBits := r.seqBits.set a (!r.seqBits[a]), call := some (call a kind payload) }
        ((s.node n).held = true → exec (.callBuild l) s = .next (linked s .clearHold [])) ∧
        ((s.node n).held = false →
          exec (.callBuild l) s =
            .next (linked
              { s with
                points := tabMap (fun _ x =>
                  if x.state = .live ∧ x.nodeSlot = n ∧ x.direction = .out then { x with inFlight := some x.demand } else x)
                  s.points }
              .exchange (s.outputImage n)))) ∧
      ((∀ a ∈ r.exchangeList, (s.nodeAt l a).state ≠ .online) → r.late = false →
        r.serviceStarted < r.settings.serviceCalls →
        let serves := fun (cls : Nat) (a : NodeAddr) =>
          let n := s.nodeAt l a
          (cls = 0 ∧ (n.state = .vacant ∨ n.state = .parked) ∧ n.parkOwed = true) ∨ (cls = 1 ∧ n.state = .resync) ∨
            (cls = 2 ∧ n.state = .describing) ∨ (cls = 3 ∧ n.state = .lost) ∨
            (cls = 4 ∧ n.state = .vacant ∧ n.parkOwed = false ∧ r.settings.scanSet.getLsbD a.val = true)
        let cursor : Nat → NodeAddr := fun cls => if cls = 3 then r.lostCursor else if cls = 4 then r.vacantCursor else 0
        ∀ cls a, cls < 5 → serves cls a → (∀ cls', cls' < cls → ∀ b, ¬serves cls' b) →
          (∀ b, serves cls b → (a.val + 16 - (cursor cls).val) % 16 ≤ (b.val + 16 - (cursor cls).val) % 16) →
          exec (.callBuild l) s =
            .next (s.setLink l
              { r with
                exchangeList := [], serviceStarted := r.serviceStarted + 1
                lostCursor := if cls = 3 then a + 1 else r.lostCursor
                vacantCursor := if cls = 4 then a + 1 else r.vacantCursor
                seqBits := r.seqBits.set a (!r.seqBits[a])
                call := some
                  (if cls = 0 then call a .park []
                   else if cls = 2 then call a .describe [byte (s.nodeAt l a).cursor]
                   else call a .probe []) })) ∧
      ((∀ a ∈ r.exchangeList, (s.nodeAt l a).state ≠ .online) →
        (r.late = true ∨ r.settings.serviceCalls ≤ r.serviceStarted ∨
          ∀ a, (s.nodeAt l a).state = .online ∨ (s.nodeAt l a).state = .refused ∨
            ((s.nodeAt l a).state = .parked ∧ (s.nodeAt l a).parkOwed = false) ∨
            ((s.nodeAt l a).state = .vacant ∧ (s.nodeAt l a).parkOwed = false ∧ r.settings.scanSet.getLsbD a.val = false)) →
        (r.late = false → exec (.callBuild l) s = .next (s.setLink l { r with complete := true })) ∧
        (r.late = true → ∃ t : State, exec (.callBuild l) s = .next t ∧ s.startsCycle l r t))) ∧
    (r.state = .stopping →
      exec (.callBuild l) s =
        .next (s.setLink l { r with call := some ⟨none, .park, false, [], 0, true, 0, false⟩ }))

/-- R29, R30, R34, R35, R42, R44, R47, R56, R61, R63, R78, R94, R95: an attempt that fails is retried with the same call while attempts are left, and
each retry is counted in the node's retry total; after its last attempt the call completes as failed, and is counted but for a PROBE built for a
VACANT record. A failed EXCHANGE or CLEAR_HOLD of an ONLINE node counts a failure, makes its values STALE, and at the loss limit loses the node;
a failed DESCRIBE counts and at the loss limit vacates the record; a failed PROBE counts for a RESYNC node, which is lost at the loss limit, and
changes no LOST or VACANT record. The completion of an addressed PARK, answered or failed, ends PARK owed. A completion that is not taken clears
the in-flight values of the node's records if it is an EXCHANGE, and changes nothing otherwise. -/
def Obligations.AttemptsFailAndAreRetried : Prop :=
  ∀ (s : State) (l : LinkId) (c : Call) (a : NodeAddr) (cmd : Instr),
    let r := s.link l
    let n := nodeSlotOf l a
    let nd := s.node n
    let failed : LinkRecord :=
      { r with
        call := none
        failedCalls := if c.kind = .probe ∧ c.builtVacant = true then r.failedCalls else min 65535 (r.failedCalls + 1) }
    (r.call = some c → c.waiting = false → c.target = some a →
      exec (.attemptRetry l) s =
        .next ((s.setLink l { r with call := some { c with waiting := true, attemptsLeft := c.attemptsLeft - 1 } }).setNode n
          { nd with retryTotal := min 65535 (nd.retryTotal + 1) })) ∧
    (s.awaits l c a → failsAttempt l cmd →
      (0 < c.attemptsLeft → exec cmd s = .next (s.setLink l { r with call := some { c with waiting := false } })) ∧
      (c.attemptsLeft = 0 →
        let done := s.setLink l failed
        let limit := decide (r.settings.lossLimit ≤ nd.failures + 1)
        (c.kind = .probe → (nd.state = .vacant ∧ nd.parkOwed = false) ∨ nd.state = .lost →
          exec cmd s = .next (done.proceed l)) ∧
        (c.kind = .probe → nd.state = .resync →
          exec cmd s =
            .next ((if limit then done.loseNodes (fun m => m == n) .failed
              else done.setNode n { nd with failures := nd.failures + 1 }).proceed l)) ∧
        (c.kind = .describe → nd.state = .describing → c.payload = [byte nd.cursor] →
          exec cmd s =
            .next ((if limit then
                (done.releaseReservations n).setNode n
                  { NodeRecord.reset with
                    incarnation := nd.incarnation, retryTotal := nd.retryTotal, parkOwed := nd.parkOwed }
              else done.setNode n { nd with failures := nd.failures + 1 }).proceed l)) ∧
        (c.kind = .exchange ∨ c.kind = .clearHold → nd.state = .online →
          let nd' : NodeRecord :=
            if limit then { nd with state := .lost, lostCause := some .failed, failures := 0 }
            else { nd with failures := nd.failures + 1 }
          exec cmd s =
            .next (((done.setNode n nd').event fun _ x =>
              if x.state = .live ∧ x.nodeSlot = n then
                let state := if limit then PointState.orphaned else x.state
                let fails := decide (x.fieldQuality = .good ∨ x.fieldQuality = .suspect)
                let field := if limit then Quality.lost else if fails then .stale else x.fieldQuality
                if x.direction = .out then
                  { x with state := state, inFlight := none, quality := if limit then .lost else x.quality }
                else
                  { x with
                    state := state, fieldQuality := field
                    quality := if x.substPort = none ∧ (limit = true ∨ fails = true) then field else x.quality }
              else x).proceed l)))) ∧
    ∀ ended : LinkRecord, s.awaits l c a →
      (failsAttempt l cmd ∧ c.attemptsLeft = 0 ∧ ended = failed) ∨
        (∃ status payload, payload.length ≤ 40 ∧ c.answerFits payload.length ∧
          cmd = .answerReceived l (answerFrame a c.kind c.seqBit status payload) ∧ ended = { r with call := none }) →
      let done := s.setLink l ended
      let expected : Prop :=
        match c.kind with
        | .probe => (nd.state = .vacant ∧ nd.parkOwed = false) ∨ nd.state = .resync ∨ nd.state = .lost
        | .describe => nd.state = .describing ∧ c.payload = [byte nd.cursor]
        | .exchange => nd.state = .online
        | .clearHold => nd.state = .online
        | .park => (nd.state = .vacant ∨ nd.state = .parked) ∧ nd.parkOwed = true
      (c.kind = .park → expected → exec cmd s = .next ((done.setNode n { nd with parkOwed := false }).proceed l)) ∧
      (¬expected →
        exec cmd s =
          .next ((if c.kind = .exchange then
              { done with
                points := tabMap (fun _ x => if x.nodeSlot = n then { x with inFlight := none } else x) s.points }
            else done).proceed l))

/-- R59, R61, R62: while an addressed call waits for its answer, TXENn is high for the characters of the call and the receiver is off; after them
the levels on RXDn, character by character (one start bit at the low level, eight data bits, least significant first, one stop bit at the high
level), amount to the answer received, or to the event that ends the attempt (that levels are taken once a bit time, and that the receiver
starts afresh when TXENn falls, also within a character that began before, are the model's choices, log entries 27 and 29). A complete answer is accepted when its CRC, address, kind echo, sequence bit echo and length fit the call, and its payload and its
three status bits complete the call; any other complete answer fails the attempt as a reply timeout does. -/
def Obligations.AnswersAreCheckedWhole : Prop :=
  ∀ (s : State) (l : LinkId) (c : Call) (a : NodeAddr), s.awaits l c a →
    let r := s.link l
    let levels := fun (bytes : List Byte) (stop : Bool) =>
      bytes.flatMap fun b => false :: ((List.finRange 8).map fun k => b.getLsbD k.val) ++ [stop]
    let unfinished := fun good : List Byte => ∀ n : Byte, good[3]? = some n → n.toNat ≤ 40 ∧ good.length < 5 + n.toNat
    (r.sending = levels c.frame true ∧ ∀ k, r.txenHigh k = true ↔ k < 10 * c.frame.length) ∧
    (∀ (sent rest : List Bool) (quiet : Nat), sent.length = 10 * c.frame.length →
      let heard := fun after : List Bool => r.lineCommand l (sent ++ (List.replicate quiet true ++ (after ++ rest)))
      (quiet * r.settings.bitRate.characterMicros < 100 * r.settings.replyTimeout →
        (∀ frame, (Instr.answerReceived l frame).wellFormed = true →
          heard (levels frame true) = some (.answerReceived l frame)) ∧
        (∀ good b, unfinished good → heard (levels good true ++ levels [b] false) = some (.framingFault l)) ∧
        (∀ good, good ≠ [] → unfinished good →
          heard (levels good true ++ List.replicate 20 true) = some (.answerTruncated l)) ∧
        (∀ (good : List Byte) (b : Byte), good.length = 3 → 40 < b.toNat →
          heard (levels good true ++ levels [b] true) = some (.answerBadLength l b))) ∧
      (0 < quiet → 100 * r.settings.replyTimeout ≤ quiet * r.settings.bitRate.characterMicros →
        heard [] = some (.replyTimeout l))) ∧
    (∀ (status : Byte) (payload : List Byte), payload.length ≤ 40 → c.answerFits payload.length →
      exec (.answerReceived l (answerFrame a c.kind c.seqBit status payload)) s =
        .next (s.completeCall l c a
          (some ⟨status.getLsbD 0, status.getLsbD 1, status.getLsbD 2, payload⟩))) ∧
    ∀ frame : List Byte, (Instr.answerReceived l frame).wellFormed = true →
      (∀ (status : Byte) (payload : List Byte), c.answerFits payload.length →
        frame ≠ answerFrame a c.kind c.seqBit status payload) →
      exec (.answerReceived l frame) s = exec (.replyTimeout l) s

/-- R30, R42, R43, R90 to R93: an accepted EXCHANGE or CLEAR_HOLD answer of an ONLINE node. A restart sends the node to RESYNC and clears the
in-flight values; otherwise the input values and qualities are taken, and the snapshot is confirmed, or the outputs stand at SAFE. -/
def Obligations.ExchangeAnswersAreTaken : Prop :=
  ∀ (s : State) (l : LinkId) (c : Call) (a : NodeAddr) (status : Byte) (payload : List Byte), s.awaits l c a →
    (s.nodeAt l a).state = .online → payload.length ≤ 40 →
    (c.kind = .exchange ∧ payload.length = c.answerLength) ∨ (c.kind = .clearHold ∧ payload = []) →
    let n := nodeSlotOf l a
    let nd := s.node n
    let fresh := status.getLsbD 0
    let held := status.getLsbD 1
    let fault := status.getLsbD 2
    let answered : NodeRecord :=
      { nd with
        failures := 0, freshExpected := fresh
        held := if held then true else if c.kind = .clearHold then false else nd.held
        nodeFault := if c.kind = .exchange then fault else nd.nodeFault }
    let done := s.setLink l { s.link l with call := none }
    let mine := fun x : PointRecord => x.state = .live ∧ x.nodeSlot = n
    let received := exec (.answerReceived l (answerFrame a c.kind c.seqBit status payload)) s
    (fresh = true → nd.freshExpected = false →
      received =
        .next (((done.setNode n { answered with state := .resync }).updatePoints fun _ x =>
          if mine x ∧ x.direction = .out then { x with inFlight := none } else x).proceed l)) ∧
    (fresh = false ∨ nd.freshExpected = true →
      (c.kind = .exchange →
        received =
          .next (((done.setNode n answered).event fun _ x =>
            if ¬mine x then x
            else if x.direction = .inp then
              let v := x.extracted payload
              let q := if fault = true ∨ x.inRange v = false then Quality.suspect else .good
              if x.substPort = none then { x with fieldValue := v, fieldQuality := q, value := v, quality := q }
              else { x with fieldValue := v, fieldQuality := q }
            else if held = true ∨ x.inFlight = none then
              { x with
                inFlight := none, applied := none, pending := true, quality := if held = true then .safe else x.quality }
            else
              { x with
                inFlight := none, applied := x.inFlight, pending := x.inFlight != some x.demand
                quality := if x.lease = none then .safe else .good }).proceed l)) ∧
      (c.kind = .clearHold →
        received =
          .next (((done.setNode n answered).event fun _ x =>
            if mine x ∧ x.direction = .out then { x with applied := none, pending := true, quality := .safe } else x).proceed l)))

/-- R30 to R34, R41, R44, R47, R64, R96: an accepted PROBE answer. A VACANT record with no PARK owed takes it as a newcomer's, and so does a RESYNC or
LOST node whose identity has changed, after its records are retired: an identity that is not valid is refused BAD_IDENTITY, one that fails the
hold check CYCLE_TOO_SLOW, and any other is described, or published at once where it has no elements. It keeps its station name if the type
text is unchanged, and takes the first free form of its default name otherwise; with none free it is refused. A RESYNC or LOST node whose
identity is unchanged returns to ONLINE, and a LOST one that fails the hold check stays LOST. What a form in use is, what a node with no free
form is refused with, and that a newcomer keeps no lost cause and no refuse reason, are the model's readings (log entries 24, 11 and 12). -/
def Obligations.ProbeAnswersAreTaken : Prop :=
  ∀ (s : State) (l : LinkId) (c : Call) (a : NodeAddr) (status : Byte) (type : Text) (unit sig : Word32)
    (count inLen outLen hold : Byte), s.awaits l c a → c.kind = .probe → type.length ≤ 4 →
    let field := type ++ List.replicate (4 - type.length) 0x20
    let payload := field ++ le32 unit ++ le32 sig ++ [count, inLen, outLen, hold]
    let received := exec (.answerReceived l (answerFrame a c.kind c.seqBit status payload)) s
    let r := s.link l
    let n := nodeSlotOf l a
    let nd : NodeRecord := { s.node n with freshExpected := status.getLsbD 0, held := status.getLsbD 1 || (s.node n).held }
    let id : Identity := ⟨type, unit, sig, count.toNat, inLen.toNat, outLen.toNat, 10 * hold.toNat⟩
    let sized := count.toNat ≤ 48 ∧ inLen.toNat ≤ 32 ∧ outLen.toNat ≤ 32 ∧ 1 ≤ hold.toNat
    let valid := 1 ≤ type.length ∧ (∀ ch ∈ type, legalChar ch = true) ∧ sized
    let invalid := ¬sized ∨ ∀ k, 1 ≤ k → k ≤ 4 →
      ¬((∀ ch ∈ field.take k, legalChar ch = true) ∧ ∀ ch ∈ field.drop k, ch = 0x20)
    let fast := 3 * r.settings.period ≤ 10 * hold.toNat ∧ ∀ pp, r.pendingPeriod = some pp → 3 * pp ≤ 10 * hold.toNat
    let name : Text := type ++ [0x2D, byte (0x30 + l.toNat), byte (0x30 + (a.val + 1) / 10), byte (0x30 + (a.val + 1) % 10)]
    let form := fun k : Nat => name.take (name.length - k) ++ List.replicate k 0x7E
    let free := fun f : Text => ∀ m, m ≠ n → (s.node m).state ≠ .vacant → (s.node m).stationName ≠ some f
    let keeps := nd.state ≠ .vacant ∧ nd.identity.typeText = type
    let named := fun nm : Option Text =>
      (keeps ∧ nm = nd.stationName) ∨
        (¬keeps ∧ ∃ k, k ≤ name.length ∧ nm = some (form k) ∧ free (form k) ∧ ∀ j, j < k → ¬free (form j))
    let done := s.setLink l { r with call := none }
    let reset := { r with call := none, seqBits := r.seqBits.set a false }
    let base := if nd.state = .vacant then done else done.retireNode n
    let refused := fun (id : Identity) (nm : Option Text) (why : RefuseReason) =>
      ((base.releaseReservations n).setNode n
        { nd with
          state := .refused, identity := id, stationName := nm, refuseReason := some why, failures := 0, lostCause := none }).proceed l
    let vacant := nd.state = .vacant ∧ nd.parkOwed = false
    let known := nd.state = .resync ∨ nd.state = .lost
    (vacant ∨ known → invalid → received = .next (refused ⟨[], 0, 0, 0, 0, 0, 0⟩ nd.stationName .badIdentity)) ∧
    (valid → vacant ∨ (known ∧ nd.identity ≠ id) →
      (∀ nm, named nm → fast →
        let u := (base.setLink l reset).setNode n
          { nd with
            state := .describing, identity := id, stationName := nm, cursor := 0, packedIn := 0, packedOut := 0
            failures := 0, refuseReason := none, lostCause := none, nodeFault := false }
        received = .next ((if count = 0 then u.completeDescribing n else u).proceed l)) ∧
      (∀ nm, named nm → ¬fast → received = .next (refused id nm .cycleTooSlow)) ∧
      (¬keeps → (∀ k, k ≤ name.length → ¬free (form k)) →
        received = .next (refused ⟨[], 0, 0, 0, 0, 0, 0⟩ none .badIdentity))) ∧
    (valid → nd.identity = id →
      let back : NodeRecord :=
        { nd with
          state := .online, incarnation := nd.incarnation + 1, failures := 0, lostCause := none, refuseReason := none }
      (nd.state = .resync →
        received =
          .next ((((s.setLink l reset).setNode n back).event fun _ x =>
            if x.state = .live ∧ x.nodeSlot = n ∧ x.direction = .out then
              { x with applied := none, pending := true, quality := .safe }
            else x).proceed l)) ∧
      (nd.state = .lost → fast →
        received =
          .next ((((s.setLink l reset).setNode n back).event fun _ x =>
            if x.state = .orphaned ∧ x.nodeSlot = n then { x with state := .live } else x).proceed l)) ∧
      (nd.state = .lost → ¬fast →
        received = .next ((done.setNode n { nd with refuseReason := some .cycleTooSlow }).proceed l)))

/-- R1, R2, R4, R8, R9, R10, R13, R35 to R41: an accepted DESCRIBE answer of a DESCRIBING node. A restart begins again at element 0. Otherwise a
payload that is no legal descriptor is refused DESCRIPTOR, and a legal element that does not fit its image LAYOUT; one that fits is packed, and
takes the lowest FREE record, or is refused DIRECTORY_FULL where there is none; a PAD takes no record. The cursor moves on, and the last
element publishes the node. At the completion of describing, in any state, the node's RESERVED records become LIVE under their full names, the
node goes to ONLINE, and nothing else changes. That a refused node keeps the increased packed-bit count is the model's reading (log entry 10). -/
def Obligations.DescribeAnswersReserve : Prop :=
  (∀ (s : State) (l : LinkId) (c : Call) (a : NodeAddr) (status : Byte) (payload : List Byte), s.awaits l c a →
    c.kind = .describe → (s.nodeAt l a).state = .describing → c.payload = [byte (s.nodeAt l a).cursor] →
    18 ≤ payload.length → payload.length ≤ 36 →
    let received := exec (.answerReceived l (answerFrame a c.kind c.seqBit status payload)) s
    let n := nodeSlotOf l a
    let fresh := status.getLsbD 0
    let done := s.setLink l { s.link l with call := none }
    let nd : NodeRecord :=
      { s.node n with failures := 0, freshExpected := fresh, held := status.getLsbD 1 || (s.node n).held }
    let refused := fun (nd : NodeRecord) (why : RefuseReason) =>
      ((done.releaseReservations n).setNode n
        { nd with state := .refused, refuseReason := some why, failures := 0, lostCause := none }).proceed l
    let restart := fresh = true ∧ (s.node n).freshExpected = false
    let carried := fun d : Descriptor =>
      (1 ≤ d.width ∧ d.width ≤ 32 ∧ d.name.length ≤ 12 ∧ d.unit.length ≤ 6) ∧
        payload = [d.kind.code, d.direction.code, byte d.width, 0] ++ le32 d.rawLow ++ le32 d.rawHigh ++ le32 d.safe ++
          byte d.name.length :: d.name ++ byte d.unit.length :: d.unit
    let legal := fun d : Descriptor => d.kind ≠ .pad →
      (d.kind = .flag → d.width = 1) ∧ 1 ≤ d.name.length ∧ (∀ ch ∈ d.name, legalChar ch = true) ∧
      (∀ i, (s.point i).state = .reserved → (s.point i).nodeSlot = n → (s.point i).elementName ≠ d.name) ∧
      (∀ ch ∈ d.unit, 0x20 ≤ ch.toNat ∧ ch.toNat ≤ 0x7E) ∧
      (d.kind = .unsigned → d.rawLow.toNat ≤ d.rawHigh.toNat ∧ d.rawHigh.toNat ≤ 2 ^ d.width - 1) ∧
      (d.kind = .signed → d.rawLow.toInt ≤ d.rawHigh.toInt ∧ -(2 ^ (d.width - 1) : Int) ≤ d.rawLow.toInt ∧
        d.rawHigh.toInt ≤ 2 ^ (d.width - 1) - 1) ∧
      (d.direction = .out →
        (d.kind = .unsigned → d.rawLow.toNat ≤ d.safe.toNat ∧ d.safe.toNat ≤ d.rawHigh.toNat) ∧
        (d.kind = .signed → d.rawLow.toInt ≤ d.safe.toInt ∧ d.safe.toInt ≤ d.rawHigh.toInt) ∧
        (d.kind = .flag ∨ d.kind = .bits → d.safe.toNat ≤ 2 ^ d.width - 1))
    (restart →
      received =
        .next (((done.releaseReservations n).setNode n { nd with cursor := 0, packedIn := 0, packedOut := 0 }).proceed l)) ∧
    (¬restart → (∀ d, carried d → ¬legal d) → received = .next (refused nd .descriptor)) ∧
    (∀ d : Descriptor, ¬restart → carried d → legal d →
      let offset := if d.direction = .inp then nd.packedIn else nd.packedOut
      let fits := offset + d.width ≤ 8 * (if d.direction = .inp then nd.identity.inputLength else nd.identity.outputLength)
      let isOut := decide (d.direction = .out)
      let full := decide (d.kind = .flag ∨ d.kind = .bits)
      let packed : NodeRecord :=
        { nd with
          packedIn := if isOut then nd.packedIn else nd.packedIn + d.width
          packedOut := if isOut then nd.packedOut + d.width else nd.packedOut }
      let movesOn := fun u : State =>
        let v := u.setNode n { packed with cursor := nd.cursor + 1 }
        (if nd.cursor + 1 = nd.identity.elementCount then v.completeDescribing n else v).proceed l
      (¬fits → received = .next (refused packed .layout)) ∧
      (fits → d.kind = .pad → received = .next (movesOn done)) ∧
      (fits → d.kind ≠ .pad → (∀ j, (s.point j).state ≠ .free) → received = .next (refused packed .directoryFull)) ∧
      ∀ i, fits → d.kind ≠ .pad → (s.point i).state = .free → (∀ j, j < i → (s.point j).state ≠ .free) →
        let reserved : PointRecord :=
          { state := .reserved
            generation := if (s.point i).generation < 127 then (s.point i).generation + 1 else 1
            nodeSlot := n, elementIndex := nd.cursor, kind := d.kind, direction := d.direction, width := d.width
            imageOffset := offset, elementName := d.name, unitText := if d.unit = [] then none else some d.unit
            rawLow := if full then 0 else d.rawLow
            rawHigh := if full then BitVec.ofNat 32 (2 ^ d.width - 1) else d.rawHigh
            descriptorSafe := if isOut then d.safe else 0, safeValue := if isOut then d.safe else 0, value := 0
            fieldValue := 0, fieldQuality := .none, demand := if isOut then d.safe else 0, applied := none, pending := isOut
            inFlight := none, quality := .none, lease := none, substPort := none, revision := 0, deadband := 0, markRef := 0
            watch := PortSet.empty, mark := PortSet.empty }
        received = .next (movesOn (done.updatePoints fun j x => if j = i then reserved else x)))) ∧
  ∀ (s : State) (n : NodeSlot),
    let t := s.completeDescribing n
    t = { s with points := t.points, nameMap := t.nameMap, nodes := t.nodes } ∧
      (∀ m, t.node m =
        if m = n then { s.node n with state := .online, incarnation := (s.node n).incarnation + 1, failures := 0 }
        else s.node m) ∧
      (∀ i, t.point i =
        if (s.point i).state = .reserved ∧ (s.point i).nodeSlot = n then { s.point i with state := .live } else s.point i) ∧
      ∀ nm i, (nm, i) ∈ t.nameMap ↔ (nm, i) ∈ s.nameMap ∨
        ((s.point i).state = .reserved ∧ (s.point i).nodeSlot = n ∧
          nm = (s.node n).stationName.getD [] ++ 0x2E :: (s.point i).elementName)

/-- R48, R81: the completion of the broadcast PARK ends the stop: ONLINE and RESYNC nodes are LOST with the cause STOPPED, DESCRIBING ones VACANT
with their reservations released, no PARK is owed, a pending period comes into force, and the link is OFF. -/
def Obligations.BroadcastParkEndsTheStop : Prop :=
  ∀ (s : State) (l : LinkId) (c : Call), (s.link l).state = .stopping → (s.link l).call = some c → c.target = none →
    ∃ t, exec (.broadcastParkCompletion l) s = .next t ∧
      (let r := s.link l
       let onLink := fun n : NodeSlot => n.val / 16 = l.toNat
       let stops := fun n : NodeSlot =>
         decide (onLink n ∧ ((s.node n).state = .online ∨ (s.node n).state = .resync))
       let describes := fun n : NodeSlot => onLink n ∧ (s.node n).state = .describing
       t.link l =
          { r with
            state := .off, call := none, settings := { r.settings with period := r.pendingPeriod.getD r.settings.period }
            pendingPeriod := none } ∧
        (∀ l', l' ≠ l → t.link l' = s.link l') ∧
        (∀ n, t.node n =
          let nd := s.node n
          if stops n then { nd with state := .lost, lostCause := some .stopped, failures := 0, parkOwed := false }
          else if describes n then
            { NodeRecord.reset with incarnation := nd.incarnation, retryTotal := nd.retryTotal }
          else if onLink n then { nd with parkOwed := false }
          else nd) ∧
        (∀ i, t.point i =
          if (s.point i).state = .reserved ∧ describes (s.point i).nodeSlot then
            { PointRecord.reset with generation := (s.point i).generation }
          else (s.loseNodes stops .stopped).point i) ∧
        t.nameMap = s.nameMap ∧ t.leases = s.leases ∧ t.device = s.device ∧ t.pending = s.pending ∧
        ∀ q, t.port q = { s.port q with markedCount := (t.port q).markedCount })

/-! ## Laws that every step keeps -/

/-- R26, R28, R58, R107, R129, R140, R144, R160: every law of Safety.lean holds right after a reset. -/
def Obligations.LawsHoldAtReset : Prop :=
  SlotsLaw State.reset ∧ QuietLaw State.reset ∧ MarksLaw State.reset ∧ ValuesLaw State.reset ∧ PendingLaw State.reset ∧
    LeaseLaw State.reset ∧ MembersLaw State.reset ∧ LinkLaw State.reset ∧ RecordsLaw State.reset ∧ NamesLaw State.reset

/-- R144, R160, R161: every step keeps at most four occupied slots with DONE before WAITING on each port, and every block at its reset value
while the part serves no windows (of the record stores in CHECKING this is the model's choice, log entry 30). -/
def Obligations.StepKeepsPortLaws : Prop :=
  ∀ s t : State, SlotsLaw s → QuietLaw s → step s = .next t → SlotsLaw t ∧ QuietLaw t

/-- R17, R129: every step keeps the mark sets inside the watch sets, the law of RETIRED records, and the marked counts equal to the marks. -/
def Obligations.StepKeepsMarksLaw : Prop :=
  ∀ s t : State, QuietLaw s → MarksLaw s → step s = .next t → MarksLaw t

/-- R85, R86, R105: every step keeps value and quality equal to the field's on an IN point without a substitute, SUBSTITUTED with one (set by a
supervisor with an open session), and pending a function of demand and applied. -/
def Obligations.StepKeepsValueLaws : Prop :=
  ∀ s t : State, QuietLaw s → ValuesLaw s → PendingLaw s → step s = .next t → ValuesLaw t ∧ PendingLaw t

/-- R106, R107, R109, R110, R114: every step keeps each lease record in the ranges of its state, the member lists equal to the lease fields, and
the demand of an OUT point of no lease equal to its safe value. -/
def Obligations.StepKeepsLeaseLaws : Prop :=
  ∀ s t : State, LeaseLaw s → MembersLaw s → step s = .next t → LeaseLaw t ∧ MembersLaw t

/-- R58, R71, R80: every step keeps an OFF link without a call in flight and without DESCRIBING, ONLINE or RESYNC nodes, and the timer running on
RUNNING links only. -/
def Obligations.StepKeepsLinkLaw : Prop := ∀ s t : State, LinkLaw s → step s = .next t → LinkLaw t

/-- R6, R19: every step keeps each point record in a state its node's state allows, and the name map holding exactly the LIVE and ORPHANED
records under their full names. -/
def Obligations.StepKeepsDirectoryLaws : Prop :=
  ∀ s t : State, RecordsLaw s → NamesLaw s → step s = .next t → RecordsLaw t ∧ NamesLaw t
end

