-- ==== Sys2Proof/Laws/State.lean ====
section
/-! SUPPORT. What each update of State leaves and what it writes: one lemma for each field and update, so that no later proof
unfolds a record update. -/

namespace Sys2Proof.Machine

/-! ## setPort -/

@[simp] theorem State.setPort_device (s : State) (p : PortId) (r : PortRecord) : (s.setPort p r).device = s.device := by cases p <;> rfl
@[simp] theorem State.setPort_supsel1 (s : State) (p : PortId) (r : PortRecord) : (s.setPort p r).supsel1 = s.supsel1 := by cases p <;> rfl
@[simp] theorem State.setPort_supsel0 (s : State) (p : PortId) (r : PortRecord) : (s.setPort p r).supsel0 = s.supsel0 := by cases p <;> rfl
@[simp] theorem State.setPort_supervisors (s : State) (p : PortId) (r : PortRecord) : (s.setPort p r).supervisors = s.supervisors := by cases p <;> rfl
@[simp] theorem State.setPort_points (s : State) (p : PortId) (r : PortRecord) : (s.setPort p r).points = s.points := by cases p <;> rfl
@[simp] theorem State.setPort_nameMap (s : State) (p : PortId) (r : PortRecord) : (s.setPort p r).nameMap = s.nameMap := by cases p <;> rfl
@[simp] theorem State.setPort_nodes (s : State) (p : PortId) (r : PortRecord) : (s.setPort p r).nodes = s.nodes := by cases p <;> rfl
@[simp] theorem State.setPort_leases (s : State) (p : PortId) (r : PortRecord) : (s.setPort p r).leases = s.leases := by cases p <;> rfl
@[simp] theorem State.setPort_link0 (s : State) (p : PortId) (r : PortRecord) : (s.setPort p r).link0 = s.link0 := by cases p <;> rfl
@[simp] theorem State.setPort_link1 (s : State) (p : PortId) (r : PortRecord) : (s.setPort p r).link1 = s.link1 := by cases p <;> rfl
@[simp] theorem State.setPort_grantPointer (s : State) (p : PortId) (r : PortRecord) : (s.setPort p r).grantPointer = s.grantPointer := by cases p <;> rfl
@[simp] theorem State.setPort_pending (s : State) (p : PortId) (r : PortRecord) : (s.setPort p r).pending = s.pending := by cases p <;> rfl

/-! ## setLink -/

@[simp] theorem State.setLink_device (s : State) (l : LinkId) (r : LinkRecord) : (s.setLink l r).device = s.device := by cases l <;> rfl
@[simp] theorem State.setLink_supsel1 (s : State) (l : LinkId) (r : LinkRecord) : (s.setLink l r).supsel1 = s.supsel1 := by cases l <;> rfl
@[simp] theorem State.setLink_supsel0 (s : State) (l : LinkId) (r : LinkRecord) : (s.setLink l r).supsel0 = s.supsel0 := by cases l <;> rfl
@[simp] theorem State.setLink_supervisors (s : State) (l : LinkId) (r : LinkRecord) : (s.setLink l r).supervisors = s.supervisors := by cases l <;> rfl
@[simp] theorem State.setLink_points (s : State) (l : LinkId) (r : LinkRecord) : (s.setLink l r).points = s.points := by cases l <;> rfl
@[simp] theorem State.setLink_nameMap (s : State) (l : LinkId) (r : LinkRecord) : (s.setLink l r).nameMap = s.nameMap := by cases l <;> rfl
@[simp] theorem State.setLink_nodes (s : State) (l : LinkId) (r : LinkRecord) : (s.setLink l r).nodes = s.nodes := by cases l <;> rfl
@[simp] theorem State.setLink_leases (s : State) (l : LinkId) (r : LinkRecord) : (s.setLink l r).leases = s.leases := by cases l <;> rfl
@[simp] theorem State.setLink_port0 (s : State) (l : LinkId) (r : LinkRecord) : (s.setLink l r).port0 = s.port0 := by cases l <;> rfl
@[simp] theorem State.setLink_port1 (s : State) (l : LinkId) (r : LinkRecord) : (s.setLink l r).port1 = s.port1 := by cases l <;> rfl
@[simp] theorem State.setLink_port2 (s : State) (l : LinkId) (r : LinkRecord) : (s.setLink l r).port2 = s.port2 := by cases l <;> rfl
@[simp] theorem State.setLink_grantPointer (s : State) (l : LinkId) (r : LinkRecord) : (s.setLink l r).grantPointer = s.grantPointer := by cases l <;> rfl
@[simp] theorem State.setLink_pending (s : State) (l : LinkId) (r : LinkRecord) : (s.setLink l r).pending = s.pending := by cases l <;> rfl

/-! ## setNode -/

@[simp] theorem State.setNode_device (s : State) (n : NodeSlot) (r : NodeRecord) : (s.setNode n r).device = s.device := rfl
@[simp] theorem State.setNode_supsel1 (s : State) (n : NodeSlot) (r : NodeRecord) : (s.setNode n r).supsel1 = s.supsel1 := rfl
@[simp] theorem State.setNode_supsel0 (s : State) (n : NodeSlot) (r : NodeRecord) : (s.setNode n r).supsel0 = s.supsel0 := rfl
@[simp] theorem State.setNode_supervisors (s : State) (n : NodeSlot) (r : NodeRecord) : (s.setNode n r).supervisors = s.supervisors := rfl
@[simp] theorem State.setNode_points (s : State) (n : NodeSlot) (r : NodeRecord) : (s.setNode n r).points = s.points := rfl
@[simp] theorem State.setNode_nameMap (s : State) (n : NodeSlot) (r : NodeRecord) : (s.setNode n r).nameMap = s.nameMap := rfl
@[simp] theorem State.setNode_leases (s : State) (n : NodeSlot) (r : NodeRecord) : (s.setNode n r).leases = s.leases := rfl
@[simp] theorem State.setNode_link0 (s : State) (n : NodeSlot) (r : NodeRecord) : (s.setNode n r).link0 = s.link0 := rfl
@[simp] theorem State.setNode_link1 (s : State) (n : NodeSlot) (r : NodeRecord) : (s.setNode n r).link1 = s.link1 := rfl
@[simp] theorem State.setNode_port0 (s : State) (n : NodeSlot) (r : NodeRecord) : (s.setNode n r).port0 = s.port0 := rfl
@[simp] theorem State.setNode_port1 (s : State) (n : NodeSlot) (r : NodeRecord) : (s.setNode n r).port1 = s.port1 := rfl
@[simp] theorem State.setNode_port2 (s : State) (n : NodeSlot) (r : NodeRecord) : (s.setNode n r).port2 = s.port2 := rfl
@[simp] theorem State.setNode_grantPointer (s : State) (n : NodeSlot) (r : NodeRecord) : (s.setNode n r).grantPointer = s.grantPointer := rfl
@[simp] theorem State.setNode_pending (s : State) (n : NodeSlot) (r : NodeRecord) : (s.setNode n r).pending = s.pending := rfl

/-! ## setLease -/

@[simp] theorem State.setLease_device (s : State) (k : LeaseIndex) (r : LeaseRecord) : (s.setLease k r).device = s.device := rfl
@[simp] theorem State.setLease_supsel1 (s : State) (k : LeaseIndex) (r : LeaseRecord) : (s.setLease k r).supsel1 = s.supsel1 := rfl
@[simp] theorem State.setLease_supsel0 (s : State) (k : LeaseIndex) (r : LeaseRecord) : (s.setLease k r).supsel0 = s.supsel0 := rfl
@[simp] theorem State.setLease_supervisors (s : State) (k : LeaseIndex) (r : LeaseRecord) : (s.setLease k r).supervisors = s.supervisors := rfl
@[simp] theorem State.setLease_points (s : State) (k : LeaseIndex) (r : LeaseRecord) : (s.setLease k r).points = s.points := rfl
@[simp] theorem State.setLease_nameMap (s : State) (k : LeaseIndex) (r : LeaseRecord) : (s.setLease k r).nameMap = s.nameMap := rfl
@[simp] theorem State.setLease_nodes (s : State) (k : LeaseIndex) (r : LeaseRecord) : (s.setLease k r).nodes = s.nodes := rfl
@[simp] theorem State.setLease_link0 (s : State) (k : LeaseIndex) (r : LeaseRecord) : (s.setLease k r).link0 = s.link0 := rfl
@[simp] theorem State.setLease_link1 (s : State) (k : LeaseIndex) (r : LeaseRecord) : (s.setLease k r).link1 = s.link1 := rfl
@[simp] theorem State.setLease_port0 (s : State) (k : LeaseIndex) (r : LeaseRecord) : (s.setLease k r).port0 = s.port0 := rfl
@[simp] theorem State.setLease_port1 (s : State) (k : LeaseIndex) (r : LeaseRecord) : (s.setLease k r).port1 = s.port1 := rfl
@[simp] theorem State.setLease_port2 (s : State) (k : LeaseIndex) (r : LeaseRecord) : (s.setLease k r).port2 = s.port2 := rfl
@[simp] theorem State.setLease_grantPointer (s : State) (k : LeaseIndex) (r : LeaseRecord) : (s.setLease k r).grantPointer = s.grantPointer := rfl
@[simp] theorem State.setLease_pending (s : State) (k : LeaseIndex) (r : LeaseRecord) : (s.setLease k r).pending = s.pending := rfl

/-! ## mapLeases -/

@[simp] theorem State.mapLeases_device (s : State) (f : LeaseIndex → LeaseRecord → LeaseRecord) : (s.mapLeases f).device = s.device := rfl
@[simp] theorem State.mapLeases_supsel1 (s : State) (f : LeaseIndex → LeaseRecord → LeaseRecord) : (s.mapLeases f).supsel1 = s.supsel1 := rfl
@[simp] theorem State.mapLeases_supsel0 (s : State) (f : LeaseIndex → LeaseRecord → LeaseRecord) : (s.mapLeases f).supsel0 = s.supsel0 := rfl
@[simp] theorem State.mapLeases_supervisors (s : State) (f : LeaseIndex → LeaseRecord → LeaseRecord) : (s.mapLeases f).supervisors = s.supervisors := rfl
@[simp] theorem State.mapLeases_points (s : State) (f : LeaseIndex → LeaseRecord → LeaseRecord) : (s.mapLeases f).points = s.points := rfl
@[simp] theorem State.mapLeases_nameMap (s : State) (f : LeaseIndex → LeaseRecord → LeaseRecord) : (s.mapLeases f).nameMap = s.nameMap := rfl
@[simp] theorem State.mapLeases_nodes (s : State) (f : LeaseIndex → LeaseRecord → LeaseRecord) : (s.mapLeases f).nodes = s.nodes := rfl
@[simp] theorem State.mapLeases_link0 (s : State) (f : LeaseIndex → LeaseRecord → LeaseRecord) : (s.mapLeases f).link0 = s.link0 := rfl
@[simp] theorem State.mapLeases_link1 (s : State) (f : LeaseIndex → LeaseRecord → LeaseRecord) : (s.mapLeases f).link1 = s.link1 := rfl
@[simp] theorem State.mapLeases_port0 (s : State) (f : LeaseIndex → LeaseRecord → LeaseRecord) : (s.mapLeases f).port0 = s.port0 := rfl
@[simp] theorem State.mapLeases_port1 (s : State) (f : LeaseIndex → LeaseRecord → LeaseRecord) : (s.mapLeases f).port1 = s.port1 := rfl
@[simp] theorem State.mapLeases_port2 (s : State) (f : LeaseIndex → LeaseRecord → LeaseRecord) : (s.mapLeases f).port2 = s.port2 := rfl
@[simp] theorem State.mapLeases_grantPointer (s : State) (f : LeaseIndex → LeaseRecord → LeaseRecord) : (s.mapLeases f).grantPointer = s.grantPointer := rfl
@[simp] theorem State.mapLeases_pending (s : State) (f : LeaseIndex → LeaseRecord → LeaseRecord) : (s.mapLeases f).pending = s.pending := rfl

/-! ## mapNodes -/

@[simp] theorem State.mapNodes_device (s : State) (f : NodeSlot → NodeRecord → NodeRecord) : (s.mapNodes f).device = s.device := rfl
@[simp] theorem State.mapNodes_supsel1 (s : State) (f : NodeSlot → NodeRecord → NodeRecord) : (s.mapNodes f).supsel1 = s.supsel1 := rfl
@[simp] theorem State.mapNodes_supsel0 (s : State) (f : NodeSlot → NodeRecord → NodeRecord) : (s.mapNodes f).supsel0 = s.supsel0 := rfl
@[simp] theorem State.mapNodes_supervisors (s : State) (f : NodeSlot → NodeRecord → NodeRecord) : (s.mapNodes f).supervisors = s.supervisors := rfl
@[simp] theorem State.mapNodes_points (s : State) (f : NodeSlot → NodeRecord → NodeRecord) : (s.mapNodes f).points = s.points := rfl
@[simp] theorem State.mapNodes_nameMap (s : State) (f : NodeSlot → NodeRecord → NodeRecord) : (s.mapNodes f).nameMap = s.nameMap := rfl
@[simp] theorem State.mapNodes_leases (s : State) (f : NodeSlot → NodeRecord → NodeRecord) : (s.mapNodes f).leases = s.leases := rfl
@[simp] theorem State.mapNodes_link0 (s : State) (f : NodeSlot → NodeRecord → NodeRecord) : (s.mapNodes f).link0 = s.link0 := rfl
@[simp] theorem State.mapNodes_link1 (s : State) (f : NodeSlot → NodeRecord → NodeRecord) : (s.mapNodes f).link1 = s.link1 := rfl
@[simp] theorem State.mapNodes_port0 (s : State) (f : NodeSlot → NodeRecord → NodeRecord) : (s.mapNodes f).port0 = s.port0 := rfl
@[simp] theorem State.mapNodes_port1 (s : State) (f : NodeSlot → NodeRecord → NodeRecord) : (s.mapNodes f).port1 = s.port1 := rfl
@[simp] theorem State.mapNodes_port2 (s : State) (f : NodeSlot → NodeRecord → NodeRecord) : (s.mapNodes f).port2 = s.port2 := rfl
@[simp] theorem State.mapNodes_grantPointer (s : State) (f : NodeSlot → NodeRecord → NodeRecord) : (s.mapNodes f).grantPointer = s.grantPointer := rfl
@[simp] theorem State.mapNodes_pending (s : State) (f : NodeSlot → NodeRecord → NodeRecord) : (s.mapNodes f).pending = s.pending := rfl

/-! ## setNameMap -/

@[simp] theorem State.setNameMap_device (s : State) (m : List (Text × DirSlot)) : (s.setNameMap m).device = s.device := rfl
@[simp] theorem State.setNameMap_supsel1 (s : State) (m : List (Text × DirSlot)) : (s.setNameMap m).supsel1 = s.supsel1 := rfl
@[simp] theorem State.setNameMap_supsel0 (s : State) (m : List (Text × DirSlot)) : (s.setNameMap m).supsel0 = s.supsel0 := rfl
@[simp] theorem State.setNameMap_supervisors (s : State) (m : List (Text × DirSlot)) : (s.setNameMap m).supervisors = s.supervisors := rfl
@[simp] theorem State.setNameMap_points (s : State) (m : List (Text × DirSlot)) : (s.setNameMap m).points = s.points := rfl
@[simp] theorem State.setNameMap_nodes (s : State) (m : List (Text × DirSlot)) : (s.setNameMap m).nodes = s.nodes := rfl
@[simp] theorem State.setNameMap_leases (s : State) (m : List (Text × DirSlot)) : (s.setNameMap m).leases = s.leases := rfl
@[simp] theorem State.setNameMap_link0 (s : State) (m : List (Text × DirSlot)) : (s.setNameMap m).link0 = s.link0 := rfl
@[simp] theorem State.setNameMap_link1 (s : State) (m : List (Text × DirSlot)) : (s.setNameMap m).link1 = s.link1 := rfl
@[simp] theorem State.setNameMap_port0 (s : State) (m : List (Text × DirSlot)) : (s.setNameMap m).port0 = s.port0 := rfl
@[simp] theorem State.setNameMap_port1 (s : State) (m : List (Text × DirSlot)) : (s.setNameMap m).port1 = s.port1 := rfl
@[simp] theorem State.setNameMap_port2 (s : State) (m : List (Text × DirSlot)) : (s.setNameMap m).port2 = s.port2 := rfl
@[simp] theorem State.setNameMap_grantPointer (s : State) (m : List (Text × DirSlot)) : (s.setNameMap m).grantPointer = s.grantPointer := rfl
@[simp] theorem State.setNameMap_pending (s : State) (m : List (Text × DirSlot)) : (s.setNameMap m).pending = s.pending := rfl

/-! ## setGrantPointer -/

@[simp] theorem State.setGrantPointer_device (s : State) (p : PortId) : (s.setGrantPointer p).device = s.device := rfl
@[simp] theorem State.setGrantPointer_supsel1 (s : State) (p : PortId) : (s.setGrantPointer p).supsel1 = s.supsel1 := rfl
@[simp] theorem State.setGrantPointer_supsel0 (s : State) (p : PortId) : (s.setGrantPointer p).supsel0 = s.supsel0 := rfl
@[simp] theorem State.setGrantPointer_supervisors (s : State) (p : PortId) : (s.setGrantPointer p).supervisors = s.supervisors := rfl
@[simp] theorem State.setGrantPointer_points (s : State) (p : PortId) : (s.setGrantPointer p).points = s.points := rfl
@[simp] theorem State.setGrantPointer_nameMap (s : State) (p : PortId) : (s.setGrantPointer p).nameMap = s.nameMap := rfl
@[simp] theorem State.setGrantPointer_nodes (s : State) (p : PortId) : (s.setGrantPointer p).nodes = s.nodes := rfl
@[simp] theorem State.setGrantPointer_leases (s : State) (p : PortId) : (s.setGrantPointer p).leases = s.leases := rfl
@[simp] theorem State.setGrantPointer_link0 (s : State) (p : PortId) : (s.setGrantPointer p).link0 = s.link0 := rfl
@[simp] theorem State.setGrantPointer_link1 (s : State) (p : PortId) : (s.setGrantPointer p).link1 = s.link1 := rfl
@[simp] theorem State.setGrantPointer_port0 (s : State) (p : PortId) : (s.setGrantPointer p).port0 = s.port0 := rfl
@[simp] theorem State.setGrantPointer_port1 (s : State) (p : PortId) : (s.setGrantPointer p).port1 = s.port1 := rfl
@[simp] theorem State.setGrantPointer_port2 (s : State) (p : PortId) : (s.setGrantPointer p).port2 = s.port2 := rfl
@[simp] theorem State.setGrantPointer_pending (s : State) (p : PortId) : (s.setGrantPointer p).pending = s.pending := rfl

/-! ## setPending -/

@[simp] theorem State.setPending_device (s : State) (q : List Instr) : (s.setPending q).device = s.device := rfl
@[simp] theorem State.setPending_supsel1 (s : State) (q : List Instr) : (s.setPending q).supsel1 = s.supsel1 := rfl
@[simp] theorem State.setPending_supsel0 (s : State) (q : List Instr) : (s.setPending q).supsel0 = s.supsel0 := rfl
@[simp] theorem State.setPending_supervisors (s : State) (q : List Instr) : (s.setPending q).supervisors = s.supervisors := rfl
@[simp] theorem State.setPending_points (s : State) (q : List Instr) : (s.setPending q).points = s.points := rfl
@[simp] theorem State.setPending_nameMap (s : State) (q : List Instr) : (s.setPending q).nameMap = s.nameMap := rfl
@[simp] theorem State.setPending_nodes (s : State) (q : List Instr) : (s.setPending q).nodes = s.nodes := rfl
@[simp] theorem State.setPending_leases (s : State) (q : List Instr) : (s.setPending q).leases = s.leases := rfl
@[simp] theorem State.setPending_link0 (s : State) (q : List Instr) : (s.setPending q).link0 = s.link0 := rfl
@[simp] theorem State.setPending_link1 (s : State) (q : List Instr) : (s.setPending q).link1 = s.link1 := rfl
@[simp] theorem State.setPending_port0 (s : State) (q : List Instr) : (s.setPending q).port0 = s.port0 := rfl
@[simp] theorem State.setPending_port1 (s : State) (q : List Instr) : (s.setPending q).port1 = s.port1 := rfl
@[simp] theorem State.setPending_port2 (s : State) (q : List Instr) : (s.setPending q).port2 = s.port2 := rfl
@[simp] theorem State.setPending_grantPointer (s : State) (q : List Instr) : (s.setPending q).grantPointer = s.grantPointer := rfl

/-! ## updatePoints -/

@[simp] theorem State.updatePoints_device (s : State) (g : DirSlot → PointRecord → PointRecord) : (s.updatePoints g).device = s.device := rfl
@[simp] theorem State.updatePoints_supsel1 (s : State) (g : DirSlot → PointRecord → PointRecord) : (s.updatePoints g).supsel1 = s.supsel1 := rfl
@[simp] theorem State.updatePoints_supsel0 (s : State) (g : DirSlot → PointRecord → PointRecord) : (s.updatePoints g).supsel0 = s.supsel0 := rfl
@[simp] theorem State.updatePoints_supervisors (s : State) (g : DirSlot → PointRecord → PointRecord) : (s.updatePoints g).supervisors = s.supervisors := rfl
@[simp] theorem State.updatePoints_nameMap (s : State) (g : DirSlot → PointRecord → PointRecord) : (s.updatePoints g).nameMap = s.nameMap := rfl
@[simp] theorem State.updatePoints_nodes (s : State) (g : DirSlot → PointRecord → PointRecord) : (s.updatePoints g).nodes = s.nodes := rfl
@[simp] theorem State.updatePoints_leases (s : State) (g : DirSlot → PointRecord → PointRecord) : (s.updatePoints g).leases = s.leases := rfl
@[simp] theorem State.updatePoints_link0 (s : State) (g : DirSlot → PointRecord → PointRecord) : (s.updatePoints g).link0 = s.link0 := rfl
@[simp] theorem State.updatePoints_link1 (s : State) (g : DirSlot → PointRecord → PointRecord) : (s.updatePoints g).link1 = s.link1 := rfl
@[simp] theorem State.updatePoints_grantPointer (s : State) (g : DirSlot → PointRecord → PointRecord) : (s.updatePoints g).grantPointer = s.grantPointer := rfl
@[simp] theorem State.updatePoints_pending (s : State) (g : DirSlot → PointRecord → PointRecord) : (s.updatePoints g).pending = s.pending := rfl

/-! ## What the updates write -/

@[simp] theorem State.setNameMap_nameMap (s : State) (m : List (Text × DirSlot)) : (s.setNameMap m).nameMap = m := rfl
@[simp] theorem State.setGrantPointer_grantPointer (s : State) (p : PortId) : (s.setGrantPointer p).grantPointer = p := rfl
@[simp] theorem State.setPending_pending (s : State) (q : List Instr) : (s.setPending q).pending = q := rfl
@[simp] theorem State.setNode_nodes (s : State) (n : NodeSlot) (r : NodeRecord) :
    (s.setNode n r).nodes = s.nodes.set n r := rfl
@[simp] theorem State.setLease_leases (s : State) (k : LeaseIndex) (r : LeaseRecord) :
    (s.setLease k r).leases = s.leases.set k r := rfl
@[simp] theorem State.mapLeases_leases (s : State) (f : LeaseIndex → LeaseRecord → LeaseRecord) :
    (s.mapLeases f).leases = tabMap f s.leases := rfl
@[simp] theorem State.mapNodes_nodes (s : State) (f : NodeSlot → NodeRecord → NodeRecord) :
    (s.mapNodes f).nodes = tabMap f s.nodes := rfl
@[simp] theorem State.updatePoints_points (s : State) (g : DirSlot → PointRecord → PointRecord) :
    (s.updatePoints g).points = tabMap g s.points := rfl

/-! ## Reading a record after an update of another kind -/

@[simp] theorem State.setPort_link (s : State) (p : PortId) (r : PortRecord) (l' : LinkId) :
    (s.setPort p r).link l' = s.link l' := by cases p <;> cases l' <;> rfl
@[simp] theorem State.setPort_point (s : State) (p : PortId) (r : PortRecord) (i' : DirSlot) :
    (s.setPort p r).point i' = s.point i' := by cases p <;> rfl
@[simp] theorem State.setPort_node (s : State) (p : PortId) (r : PortRecord) (n' : NodeSlot) :
    (s.setPort p r).node n' = s.node n' := by cases p <;> rfl
@[simp] theorem State.setPort_leaseAt (s : State) (p : PortId) (r : PortRecord) (k' : LeaseIndex) :
    (s.setPort p r).leaseAt k' = s.leaseAt k' := by cases p <;> rfl

@[simp] theorem State.setLink_port (s : State) (l : LinkId) (r : LinkRecord) (p' : PortId) :
    (s.setLink l r).port p' = s.port p' := by cases l <;> cases p' <;> rfl
@[simp] theorem State.setLink_point (s : State) (l : LinkId) (r : LinkRecord) (i' : DirSlot) :
    (s.setLink l r).point i' = s.point i' := by cases l <;> rfl
@[simp] theorem State.setLink_node (s : State) (l : LinkId) (r : LinkRecord) (n' : NodeSlot) :
    (s.setLink l r).node n' = s.node n' := by cases l <;> rfl
@[simp] theorem State.setLink_leaseAt (s : State) (l : LinkId) (r : LinkRecord) (k' : LeaseIndex) :
    (s.setLink l r).leaseAt k' = s.leaseAt k' := by cases l <;> rfl

@[simp] theorem State.setNode_port (s : State) (n : NodeSlot) (r : NodeRecord) (p' : PortId) :
    (s.setNode n r).port p' = s.port p' := by cases p' <;> rfl
@[simp] theorem State.setNode_link (s : State) (n : NodeSlot) (r : NodeRecord) (l' : LinkId) :
    (s.setNode n r).link l' = s.link l' := by cases l' <;> rfl
@[simp] theorem State.setNode_point (s : State) (n : NodeSlot) (r : NodeRecord) (i' : DirSlot) :
    (s.setNode n r).point i' = s.point i' := rfl
@[simp] theorem State.setNode_leaseAt (s : State) (n : NodeSlot) (r : NodeRecord) (k' : LeaseIndex) :
    (s.setNode n r).leaseAt k' = s.leaseAt k' := rfl

@[simp] theorem State.setLease_port (s : State) (k : LeaseIndex) (r : LeaseRecord) (p' : PortId) :
    (s.setLease k r).port p' = s.port p' := by cases p' <;> rfl
@[simp] theorem State.setLease_link (s : State) (k : LeaseIndex) (r : LeaseRecord) (l' : LinkId) :
    (s.setLease k r).link l' = s.link l' := by cases l' <;> rfl
@[simp] theorem State.setLease_point (s : State) (k : LeaseIndex) (r : LeaseRecord) (i' : DirSlot) :
    (s.setLease k r).point i' = s.point i' := rfl
@[simp] theorem State.setLease_node (s : State) (k : LeaseIndex) (r : LeaseRecord) (n' : NodeSlot) :
    (s.setLease k r).node n' = s.node n' := rfl

@[simp] theorem State.mapLeases_port (s : State) (f : LeaseIndex → LeaseRecord → LeaseRecord) (p' : PortId) :
    (s.mapLeases f).port p' = s.port p' := by cases p' <;> rfl
@[simp] theorem State.mapLeases_link (s : State) (f : LeaseIndex → LeaseRecord → LeaseRecord) (l' : LinkId) :
    (s.mapLeases f).link l' = s.link l' := by cases l' <;> rfl
@[simp] theorem State.mapLeases_point (s : State) (f : LeaseIndex → LeaseRecord → LeaseRecord) (i' : DirSlot) :
    (s.mapLeases f).point i' = s.point i' := rfl
@[simp] theorem State.mapLeases_node (s : State) (f : LeaseIndex → LeaseRecord → LeaseRecord) (n' : NodeSlot) :
    (s.mapLeases f).node n' = s.node n' := rfl

@[simp] theorem State.mapNodes_port (s : State) (f : NodeSlot → NodeRecord → NodeRecord) (p' : PortId) :
    (s.mapNodes f).port p' = s.port p' := by cases p' <;> rfl
@[simp] theorem State.mapNodes_link (s : State) (f : NodeSlot → NodeRecord → NodeRecord) (l' : LinkId) :
    (s.mapNodes f).link l' = s.link l' := by cases l' <;> rfl
@[simp] theorem State.mapNodes_point (s : State) (f : NodeSlot → NodeRecord → NodeRecord) (i' : DirSlot) :
    (s.mapNodes f).point i' = s.point i' := rfl
@[simp] theorem State.mapNodes_leaseAt (s : State) (f : NodeSlot → NodeRecord → NodeRecord) (k' : LeaseIndex) :
    (s.mapNodes f).leaseAt k' = s.leaseAt k' := rfl

@[simp] theorem State.setNameMap_port (s : State) (m : List (Text × DirSlot)) (p' : PortId) :
    (s.setNameMap m).port p' = s.port p' := by cases p' <;> rfl
@[simp] theorem State.setNameMap_link (s : State) (m : List (Text × DirSlot)) (l' : LinkId) :
    (s.setNameMap m).link l' = s.link l' := by cases l' <;> rfl
@[simp] theorem State.setNameMap_point (s : State) (m : List (Text × DirSlot)) (i' : DirSlot) :
    (s.setNameMap m).point i' = s.point i' := rfl
@[simp] theorem State.setNameMap_node (s : State) (m : List (Text × DirSlot)) (n' : NodeSlot) :
    (s.setNameMap m).node n' = s.node n' := rfl
@[simp] theorem State.setNameMap_leaseAt (s : State) (m : List (Text × DirSlot)) (k' : LeaseIndex) :
    (s.setNameMap m).leaseAt k' = s.leaseAt k' := rfl

@[simp] theorem State.setGrantPointer_port (s : State) (p : PortId) (p' : PortId) :
    (s.setGrantPointer p).port p' = s.port p' := by cases p' <;> rfl
@[simp] theorem State.setGrantPointer_link (s : State) (p : PortId) (l' : LinkId) :
    (s.setGrantPointer p).link l' = s.link l' := by cases l' <;> rfl
@[simp] theorem State.setGrantPointer_point (s : State) (p : PortId) (i' : DirSlot) :
    (s.setGrantPointer p).point i' = s.point i' := rfl
@[simp] theorem State.setGrantPointer_node (s : State) (p : PortId) (n' : NodeSlot) :
    (s.setGrantPointer p).node n' = s.node n' := rfl
@[simp] theorem State.setGrantPointer_leaseAt (s : State) (p : PortId) (k' : LeaseIndex) :
    (s.setGrantPointer p).leaseAt k' = s.leaseAt k' := rfl

@[simp] theorem State.setPending_port (s : State) (q : List Instr) (p' : PortId) :
    (s.setPending q).port p' = s.port p' := by cases p' <;> rfl
@[simp] theorem State.setPending_link (s : State) (q : List Instr) (l' : LinkId) :
    (s.setPending q).link l' = s.link l' := by cases l' <;> rfl
@[simp] theorem State.setPending_point (s : State) (q : List Instr) (i' : DirSlot) :
    (s.setPending q).point i' = s.point i' := rfl
@[simp] theorem State.setPending_node (s : State) (q : List Instr) (n' : NodeSlot) :
    (s.setPending q).node n' = s.node n' := rfl
@[simp] theorem State.setPending_leaseAt (s : State) (q : List Instr) (k' : LeaseIndex) :
    (s.setPending q).leaseAt k' = s.leaseAt k' := rfl

@[simp] theorem State.updatePoints_link (s : State) (g : DirSlot → PointRecord → PointRecord) (l' : LinkId) :
    (s.updatePoints g).link l' = s.link l' := by cases l' <;> rfl
@[simp] theorem State.updatePoints_node (s : State) (g : DirSlot → PointRecord → PointRecord) (n' : NodeSlot) :
    (s.updatePoints g).node n' = s.node n' := rfl
@[simp] theorem State.updatePoints_leaseAt (s : State) (g : DirSlot → PointRecord → PointRecord) (k' : LeaseIndex) :
    (s.updatePoints g).leaseAt k' = s.leaseAt k' := rfl

/-! ## Reading the record an update wrote, or another record of the same table -/

@[simp] theorem State.setPort_port (s : State) (p : PortId) (r : PortRecord) (p' : PortId) :
    (s.setPort p r).port p' = if p' = p then r else s.port p' := by cases p <;> cases p' <;> rfl
@[simp] theorem State.setLink_link (s : State) (l : LinkId) (r : LinkRecord) (l' : LinkId) :
    (s.setLink l r).link l' = if l' = l then r else s.link l' := by cases l <;> cases l' <;> rfl
@[simp] theorem State.setNode_node (s : State) (n : NodeSlot) (r : NodeRecord) (n' : NodeSlot) :
    (s.setNode n r).node n' = if n' = n then r else s.node n' := by
  simp only [State.node, State.setNode]
  by_cases h : n' = n
  · subst h; simp
  · have : (n : Nat) ≠ n' := fun e => h (Fin.ext e.symm)
    simp [h, this]
@[simp] theorem State.setLease_leaseAt (s : State) (k : LeaseIndex) (r : LeaseRecord) (k' : LeaseIndex) :
    (s.setLease k r).leaseAt k' = if k' = k then r else s.leaseAt k' := by
  simp only [State.leaseAt, State.setLease]
  by_cases h : k' = k
  · subst h; simp
  · have : (k : Nat) ≠ k' := fun e => h (Fin.ext e.symm)
    simp [h, this]

end Sys2Proof.Machine
end

