-- ==== Sys2Proof/Laws/Tables.lean ====
section
/-! SUPPORT. Tables: what mapping one does to a record, what its entries are, and what the lowest matching index is. -/

namespace Sys2Proof.Machine

theorem mapFrom_getElem? {α : Type} (f : Nat → α → α) (k i : Nat) (l : List α) :
    (mapFrom f k l)[i]? = l[i]?.map (f (k + i)) := by
  induction l generalizing k i with
  | nil => simp [mapFrom]
  | cons x xs ih =>
    cases i with
    | zero => simp [mapFrom]
    | succ i => simp only [mapFrom, List.getElem?_cons_succ, ih]; congr 2; omega

/-- A record of a mapped table is the map of the record. -/
@[simp] theorem tabMap_get {α : Type} {n : Nat} (f : Fin n → α → α) (v : Vector α n) (i : Fin n) :
    (tabMap f v)[i] = f i v[i] := by
  have hi := i.isLt
  have h : (tabMap f v).toList[i.val]? = v.toList[i.val]?.map (f i) := by
    simp [tabMap, mapFrom_getElem?]
  simpa using h

theorem tabMap_id {α : Type} {n : Nat} (v : Vector α n) : tabMap (fun _ r => r) v = v := by
  ext i hi
  exact tabMap_get _ v ⟨i, hi⟩

@[simp] theorem State.updatePoints_point (s : State) (g : DirSlot → PointRecord → PointRecord) (i : DirSlot) :
    (s.updatePoints g).point i = g i (s.point i) := tabMap_get g s.points i
@[simp] theorem State.mapLeases_leaseAt (s : State) (f : LeaseIndex → LeaseRecord → LeaseRecord) (k : LeaseIndex) :
    (s.mapLeases f).leaseAt k = f k (s.leaseAt k) := tabMap_get f s.leases k
@[simp] theorem State.mapNodes_node (s : State) (f : NodeSlot → NodeRecord → NodeRecord) (n : NodeSlot) :
    (s.mapNodes f).node n = f n (s.node n) := tabMap_get f s.nodes n

/-- Two tables with the same records are the same. -/
theorem table_ext {α : Type} {n : Nat} {v w : Vector α n} (h : ∀ i : Fin n, v[i] = w[i]) : v = w := by
  ext i hi
  exact h ⟨i, hi⟩

theorem indices_eq (n : Nat) : indices n = List.finRange n := by
  apply List.ext_getElem?
  intro i
  simp only [indices]
  have h : (List.range n).filterMap (fun k => if h : k < n then some (⟨k, h⟩ : Fin n) else none) =
      (List.range n).attach.map fun k => ⟨k.1, List.mem_range.mp k.2⟩ := by
    rw [← List.filterMap_eq_map]
    conv_lhs => rw [← List.attach_map_subtype_val (List.range n)]
    rw [List.filterMap_map]
    apply List.filterMap_congr
    rintro ⟨k, hk⟩ _
    simp [List.mem_range.mp hk]
  rw [h]
  by_cases hi : i < n
  · simp [hi]
  · simp [hi]

theorem indices_length (n : Nat) : (indices n).length = n := by simp [indices_eq]

theorem mem_indices {n : Nat} (i : Fin n) : i ∈ indices n := by simp [indices_eq]

/-- The entries of a table are its records with their indices. -/
theorem entries_eq {α : Type} {n : Nat} (v : Vector α n) : entries v = (List.finRange n).map fun i => (i, v[i]) := by
  apply List.ext_getElem?
  intro i
  by_cases hi : i < n
  · simp [entries, indices_eq, hi]
  · simp [entries, indices_eq, hi]

theorem mem_entries {α : Type} {n : Nat} (v : Vector α n) (e : Fin n × α) : e ∈ entries v ↔ e.2 = v[e.1] := by
  rw [entries_eq]
  constructor
  · intro h; obtain ⟨i, -, rfl⟩ := List.mem_map.mp h; rfl
  · intro h; exact List.mem_map.mpr ⟨e.1, List.mem_finRange _, by rw [← h]⟩

/-- The lowest index whose record meets a test: its record does, and no lower one does. -/
theorem lowest_eq_some {α : Type} {n : Nat} (test : α → Bool) (v : Vector α n) (i : Fin n) :
    lowest test v = some i ↔ test v[i] = true ∧ ∀ j, j < i → test v[j] = false := by
  simp only [lowest, entries_eq, List.find?_map, Option.map_map]
  have : Option.map (Prod.fst ∘ fun i => (i, v[i])) (List.find? ((fun e => test e.2) ∘ fun i => (i, v[i])) (List.finRange n)) =
      List.find? (fun i => test v[i]) (List.finRange n) := by
    have hc : (Prod.fst ∘ fun i : Fin n => (i, v[i])) = id := rfl
    rw [hc, Option.map_id]; rfl
  rw [this, List.find?_eq_some_iff_getElem]
  constructor
  · rintro ⟨h, k, hk, hki, hlt⟩
    simp at hk hki
    refine ⟨h, fun j hj => ?_⟩
    have hjk : j.val < k := by rw [← hki] at hj; exact hj
    have := hlt j.val hjk
    simpa using this
  · rintro ⟨h, hlt⟩
    refine ⟨h, i.val, by simp, by simp, fun j hj => ?_⟩
    have := hlt ⟨j, by omega⟩ hj
    simpa using this

theorem lowest_eq_none {α : Type} {n : Nat} (test : α → Bool) (v : Vector α n) :
    lowest test v = none ↔ ∀ i : Fin n, test v[i] = false := by
  simp [lowest, entries_eq]

end Sys2Proof.Machine
end

