-- ==== Sys2Proof/Laws/Grant.lean ====
section
/-! SUPPORT. What a grant can do: which request it takes, which of its outcomes it has, and what the end of a grant leaves. -/

namespace Sys2Proof.Machine

/-! ## The end of a grant -/

@[simp] theorem State.finishGrant_device (s : State) (p : PortId) (r : Response) : (s.finishGrant p r).device = s.device := by
  simp [State.finishGrant]
@[simp] theorem State.finishGrant_supsel1 (s : State) (p : PortId) (r : Response) :
    (s.finishGrant p r).supsel1 = s.supsel1 := by simp [State.finishGrant]
@[simp] theorem State.finishGrant_supsel0 (s : State) (p : PortId) (r : Response) :
    (s.finishGrant p r).supsel0 = s.supsel0 := by simp [State.finishGrant]
@[simp] theorem State.finishGrant_supervisors (s : State) (p : PortId) (r : Response) :
    (s.finishGrant p r).supervisors = s.supervisors := by simp [State.finishGrant]
@[simp] theorem State.finishGrant_points (s : State) (p : PortId) (r : Response) : (s.finishGrant p r).points = s.points := by
  simp [State.finishGrant]
@[simp] theorem State.finishGrant_nameMap (s : State) (p : PortId) (r : Response) :
    (s.finishGrant p r).nameMap = s.nameMap := by simp [State.finishGrant]
@[simp] theorem State.finishGrant_nodes (s : State) (p : PortId) (r : Response) : (s.finishGrant p r).nodes = s.nodes := by
  simp [State.finishGrant]
@[simp] theorem State.finishGrant_leases (s : State) (p : PortId) (r : Response) : (s.finishGrant p r).leases = s.leases := by
  simp [State.finishGrant]
@[simp] theorem State.finishGrant_pending (s : State) (p : PortId) (r : Response) :
    (s.finishGrant p r).pending = s.pending := by simp [State.finishGrant]
@[simp] theorem State.finishGrant_grantPointer (s : State) (p : PortId) (r : Response) :
    (s.finishGrant p r).grantPointer = p := by simp [State.finishGrant]
@[simp] theorem State.finishGrant_link (s : State) (p : PortId) (r : Response) (l : LinkId) :
    (s.finishGrant p r).link l = s.link l := by simp [State.finishGrant]
@[simp] theorem State.finishGrant_point (s : State) (p : PortId) (r : Response) (i : DirSlot) :
    (s.finishGrant p r).point i = s.point i := by simp [State.point]
@[simp] theorem State.finishGrant_node (s : State) (p : PortId) (r : Response) (n : NodeSlot) :
    (s.finishGrant p r).node n = s.node n := by simp [State.node]
@[simp] theorem State.finishGrant_leaseAt (s : State) (p : PortId) (r : Response) (k : LeaseIndex) :
    (s.finishGrant p r).leaseAt k = s.leaseAt k := by simp [State.leaseAt]
@[simp] theorem State.finishGrant_port (s : State) (p : PortId) (r : Response) (q : PortId) :
    (s.finishGrant p r).port q =
      if q = p then { s.port p with slots := answerSlots r (s.port p).slots } else s.port q := by
  simp [State.finishGrant]

/-! ## The cases of a grant -/

/-- Everything a grant can do: nothing, because its request is not the next one; a result of the common checks; or the request's own
rule, whose common checks have passed (R152, R153). -/
theorem State.grantOf_cases {α : Type} (s : State) (mine : Byte → Bool) (pol : Policy) (form : List Byte → Option α)
    (act : PortId → α → State → State × Response) :
    s.grantOf mine pol form act = s ∨
      ∃ p e, s.nextRequest = some (p, e) ∧ mine e.code = true ∧
        ((∃ r, s.grantOf mine pol form act = s.finishGrant p (answer r)) ∨
          ∃ a, form e.params = some a ∧ ¬(s.device = .failed ∧ pol.inFailed = false) ∧
            (pol.session = true → (s.port p).sessionOpen = true) ∧ (pol.supervisor = true → s.isSupervisor p = true) ∧
            s.grantOf mine pol form act = (act p a s).1.finishGrant p (act p a s).2) := by
  unfold State.grantOf
  split
  · exact .inl rfl
  · rename_i p e heq
    split
    · rename_i hm
      refine .inr ⟨p, e, heq, hm, ?_⟩
      unfold State.answered
      dsimp only
      split
      · exact .inl ⟨_, rfl⟩
      · split
        · exact .inl ⟨_, rfl⟩
        · split
          · exact .inl ⟨_, rfl⟩
          · split
            · exact .inl ⟨_, rfl⟩
            · rename_i hf _ a ha hs hp
              refine .inr ⟨a, ha, hf, fun h => ?_, fun h => ?_, rfl⟩
              · simpa [h] using hs
              · simpa [h] using hp
    · exact .inl rfl

/-- Nothing is granted in reset or in CHECKING (R160, R161). -/
theorem State.nextRequest_serving {s : State} {g : PortId × PortSlot} (h : s.nextRequest = some g) : s.serving = true := by
  unfold State.nextRequest at h
  split at h
  · assumption
  · cases h

/-- What every request's rule keeps, and the end of a grant keeps, a grant keeps. -/
theorem State.grantOf_keeps {α : Type} (P : State → Prop) {s : State} {mine : Byte → Bool} {pol : Policy}
    {form : List Byte → Option α} {act : PortId → α → State → State × Response} (hs : P s)
    (hfin : ∀ s p r, P s → P (s.finishGrant p r))
    (hact : ∀ p a, P s → s.serving = true → (pol.session = true → (s.port p).sessionOpen = true) →
      (pol.supervisor = true → s.isSupervisor p = true) → P (act p a s).1) :
    P (s.grantOf mine pol form act) := by
  obtain h | ⟨p, e, hn, -, ⟨r, h⟩ | ⟨a, -, -, h1, h2, h⟩⟩ := s.grantOf_cases mine pol form act
  · rw [h]; exact hs
  · rw [h]; exact hfin _ _ _ hs
  · rw [h]; exact hfin _ _ _ (hact p a hs (s.nextRequest_serving hn) h1 h2)

/-- The grant of the next request, when its common checks pass, is its own rule and then the end of the grant. -/
theorem State.grantOf_runs {α : Type} {s : State} {mine : Byte → Bool} {pol : Policy} {form : List Byte → Option α}
    {act : PortId → α → State → State × Response} {p : PortId} {code : Byte} {params : List Byte} {a : α}
    (hn : s.nextIs p code params) (hm : mine code = true) (hd : s.device = .failed → pol.inFailed = true)
    (hf : form params = some a) (h1 : pol.session = true → (s.port p).sessionOpen = true)
    (h2 : pol.supervisor = true → s.isSupervisor p = true) :
    s.grantOf mine pol form act = (act p a s).1.finishGrant p (act p a s).2 := by
  obtain ⟨⟨p', e⟩, he, heq⟩ := Option.map_eq_some_iff.mp hn
  simp only [Prod.mk.injEq] at heq
  obtain ⟨rfl, rfl, rfl⟩ := heq
  unfold State.grantOf
  simp only [he, hm, if_true]
  have hf' : ¬(s.device = .failed ∧ pol.inFailed = false) := by
    rintro ⟨h, h'⟩; rw [hd h] at h'; cases h'
  have hs' : ¬(pol.session = true ∧ (s.port p').sessionOpen = false) := by
    rintro ⟨h, h'⟩; rw [h1 h] at h'; cases h'
  have hp' : ¬(pol.supervisor = true ∧ s.isSupervisor p' = false) := by
    rintro ⟨h, h'⟩; rw [h2 h] at h'; cases h'
  unfold State.answered
  rw [if_neg hf', hf]
  simp only [hs', hp', if_false]

/-- The same for a request with one code. -/
theorem State.grant_runs {α : Type} {s : State} {pol : Policy} {form : List Byte → Option α}
    {act : PortId → α → State → State × Response} {p : PortId} {code : Byte} {params : List Byte} {a : α}
    (hn : s.nextIs p code params) (hd : s.device = .failed → pol.inFailed = true)
    (hf : form params = some a) (h1 : pol.session = true → (s.port p).sessionOpen = true)
    (h2 : pol.supervisor = true → s.isSupervisor p = true) :
    s.grant code pol form act = (act p a s).1.finishGrant p (act p a s).2 :=
  State.grantOf_runs hn (by simp) hd hf h1 h2

end Sys2Proof.Machine
end

