-- ==== Sys2Proof/Laws/Ops.lean ====
section
/-! SUPPORT. What each shared operation does to the records of the part, said once: the record in a slot after it, and what it leaves
alone. -/

namespace Sys2Proof.Machine

/-! ## Events (R126) -/

@[simp] theorem State.event_point (s : State) (f : DirSlot → PointRecord → PointRecord) (i : DirSlot) :
    (s.event f).point i = report (s.point i) (f i (s.point i)) := by simp [State.event]
@[simp] theorem State.event_device (s : State) (f : DirSlot → PointRecord → PointRecord) : (s.event f).device = s.device := rfl
@[simp] theorem State.event_supsel1 (s : State) (f : DirSlot → PointRecord → PointRecord) :
    (s.event f).supsel1 = s.supsel1 := rfl
@[simp] theorem State.event_supsel0 (s : State) (f : DirSlot → PointRecord → PointRecord) :
    (s.event f).supsel0 = s.supsel0 := rfl
@[simp] theorem State.event_supervisors (s : State) (f : DirSlot → PointRecord → PointRecord) :
    (s.event f).supervisors = s.supervisors := rfl
@[simp] theorem State.event_nameMap (s : State) (f : DirSlot → PointRecord → PointRecord) :
    (s.event f).nameMap = s.nameMap := rfl
@[simp] theorem State.event_nodes (s : State) (f : DirSlot → PointRecord → PointRecord) : (s.event f).nodes = s.nodes := rfl
@[simp] theorem State.event_leases (s : State) (f : DirSlot → PointRecord → PointRecord) : (s.event f).leases = s.leases := rfl
@[simp] theorem State.event_node (s : State) (f : DirSlot → PointRecord → PointRecord) (n : NodeSlot) :
    (s.event f).node n = s.node n := rfl
@[simp] theorem State.event_leaseAt (s : State) (f : DirSlot → PointRecord → PointRecord) (k : LeaseIndex) :
    (s.event f).leaseAt k = s.leaseAt k := rfl
@[simp] theorem State.event_link (s : State) (f : DirSlot → PointRecord → PointRecord) (l : LinkId) :
    (s.event f).link l = s.link l := by cases l <;> rfl
@[simp] theorem State.event_grantPointer (s : State) (f : DirSlot → PointRecord → PointRecord) :
    (s.event f).grantPointer = s.grantPointer := rfl
@[simp] theorem State.event_pending (s : State) (f : DirSlot → PointRecord → PointRecord) :
    (s.event f).pending = s.pending := rfl

/-- A port's record after an update of point records: only its marked count can differ (R129). -/
theorem State.updatePoints_port (s : State) (g : DirSlot → PointRecord → PointRecord) (p : PortId) :
    (s.updatePoints g).port p = (s.port p).recount p s.points.toList (tabMap g s.points).toList := by cases p <;> rfl

@[simp] theorem State.updatePoints_port_slots (s : State) (g : DirSlot → PointRecord → PointRecord) (p : PortId) :
    ((s.updatePoints g).port p).slots = (s.port p).slots := by rw [State.updatePoints_port]; rfl
@[simp] theorem State.updatePoints_port_window (s : State) (g : DirSlot → PointRecord → PointRecord) (p : PortId) :
    ((s.updatePoints g).port p).window = (s.port p).window := by rw [State.updatePoints_port]; rfl
@[simp] theorem State.updatePoints_port_sessionOpen (s : State) (g : DirSlot → PointRecord → PointRecord) (p : PortId) :
    ((s.updatePoints g).port p).sessionOpen = (s.port p).sessionOpen := by rw [State.updatePoints_port]; rfl
@[simp] theorem State.updatePoints_port_frameError (s : State) (g : DirSlot → PointRecord → PointRecord) (p : PortId) :
    ((s.updatePoints g).port p).frameError = (s.port p).frameError := by rw [State.updatePoints_port]; rfl
@[simp] theorem State.updatePoints_port_overrun (s : State) (g : DirSlot → PointRecord → PointRecord) (p : PortId) :
    ((s.updatePoints g).port p).overrun = (s.port p).overrun := by rw [State.updatePoints_port]; rfl
@[simp] theorem State.updatePoints_port_marksEnabled (s : State) (g : DirSlot → PointRecord → PointRecord) (p : PortId) :
    ((s.updatePoints g).port p).marksEnabled = (s.port p).marksEnabled := by rw [State.updatePoints_port]; rfl
@[simp] theorem State.updatePoints_port_lapsesEnabled (s : State) (g : DirSlot → PointRecord → PointRecord) (p : PortId) :
    ((s.updatePoints g).port p).lapsesEnabled = (s.port p).lapsesEnabled := by rw [State.updatePoints_port]; rfl
@[simp] theorem State.updatePoints_port_scanCursor (s : State) (g : DirSlot → PointRecord → PointRecord) (p : PortId) :
    ((s.updatePoints g).port p).scanCursor = (s.port p).scanCursor := by rw [State.updatePoints_port]; rfl

@[simp] theorem State.event_port_slots (s : State) (f : DirSlot → PointRecord → PointRecord) (p : PortId) :
    ((s.event f).port p).slots = (s.port p).slots := State.updatePoints_port_slots _ _ _
@[simp] theorem State.event_port_window (s : State) (f : DirSlot → PointRecord → PointRecord) (p : PortId) :
    ((s.event f).port p).window = (s.port p).window := State.updatePoints_port_window _ _ _
@[simp] theorem State.event_port_sessionOpen (s : State) (f : DirSlot → PointRecord → PointRecord) (p : PortId) :
    ((s.event f).port p).sessionOpen = (s.port p).sessionOpen := State.updatePoints_port_sessionOpen _ _ _

/-! ## Reportable changes -/

/-- A record that an event leaves as it was takes no reportable change (R126). -/
@[simp] theorem report_self (r : PointRecord) : report r r = r := by
  unfold report
  have : reportable r r = false := by unfold reportable; cases r.direction <;> simp
  simp [this]

/-- What a reportable change leaves: every field but revision, mark reference and marks (R128). -/
theorem report_fields (before after : PointRecord) :
    ∃ rev ref mark, report before after = { after with revision := rev, markRef := ref, mark := mark } ∧
      (mark = after.mark ∨ mark = after.mark.union after.watch) := by
  unfold report
  split
  · exact ⟨_, _, _, rfl, .inr rfl⟩
  · exact ⟨_, _, _, rfl, .inl rfl⟩

@[simp] theorem report_state (b a : PointRecord) : (report b a).state = a.state := by
  unfold report; split <;> rfl
@[simp] theorem report_generation (b a : PointRecord) : (report b a).generation = a.generation := by
  unfold report; split <;> rfl
@[simp] theorem report_nodeSlot (b a : PointRecord) : (report b a).nodeSlot = a.nodeSlot := by
  unfold report; split <;> rfl
@[simp] theorem report_direction (b a : PointRecord) : (report b a).direction = a.direction := by
  unfold report; split <;> rfl
@[simp] theorem report_elementName (b a : PointRecord) : (report b a).elementName = a.elementName := by
  unfold report; split <;> rfl
@[simp] theorem report_lease (b a : PointRecord) : (report b a).lease = a.lease := by
  unfold report; split <;> rfl
@[simp] theorem report_demand (b a : PointRecord) : (report b a).demand = a.demand := by
  unfold report; split <;> rfl
@[simp] theorem report_safeValue (b a : PointRecord) : (report b a).safeValue = a.safeValue := by
  unfold report; split <;> rfl
@[simp] theorem report_applied (b a : PointRecord) : (report b a).applied = a.applied := by
  unfold report; split <;> rfl
@[simp] theorem report_pending (b a : PointRecord) : (report b a).pending = a.pending := by
  unfold report; split <;> rfl
@[simp] theorem report_inFlight (b a : PointRecord) : (report b a).inFlight = a.inFlight := by
  unfold report; split <;> rfl
@[simp] theorem report_value (b a : PointRecord) : (report b a).value = a.value := by
  unfold report; split <;> rfl
@[simp] theorem report_fieldValue (b a : PointRecord) : (report b a).fieldValue = a.fieldValue := by
  unfold report; split <;> rfl
@[simp] theorem report_quality (b a : PointRecord) : (report b a).quality = a.quality := by
  unfold report; split <;> rfl
@[simp] theorem report_fieldQuality (b a : PointRecord) : (report b a).fieldQuality = a.fieldQuality := by
  unfold report; split <;> rfl
@[simp] theorem report_substPort (b a : PointRecord) : (report b a).substPort = a.substPort := by
  unfold report; split <;> rfl
@[simp] theorem report_watch (b a : PointRecord) : (report b a).watch = a.watch := by
  unfold report; split <;> rfl

/-! ## Sets of ports -/

/-- Two sets with the same ports are the same. -/
theorem PortSet.ext_has {a b : PortSet} (h : ∀ p, a.has p = b.has p) : a = b := by
  cases a; cases b
  have h0 := h .h0; have h1 := h .h1; have h2 := h .h2
  simp only [PortSet.has] at h0 h1 h2
  subst h0; subst h1; subst h2; rfl

@[simp] theorem PortSet.has_union (a b : PortSet) (p : PortId) : (a.union b).has p = (a.has p || b.has p) := by
  cases p <;> rfl
@[simp] theorem PortSet.has_add (a : PortSet) (p q : PortId) : (a.add p).has q = (q == p || a.has q) := by
  cases p <;> cases q <;> rfl
@[simp] theorem PortSet.has_drop (a : PortSet) (p q : PortId) : (a.drop p).has q = (q != p && a.has q) := by
  cases p <;> cases q <;> rfl
@[simp] theorem PortSet.has_empty (p : PortId) : PortSet.empty.has p = false := by cases p <;> rfl
theorem PortSet.isEmpty_iff (a : PortSet) : a.isEmpty = true ↔ a = PortSet.empty := by
  rcases a with ⟨_ | _, _ | _, _ | _⟩ <;> simp [PortSet.isEmpty, PortSet.empty]
theorem PortSet.isEmpty_false_iff (a : PortSet) : a.isEmpty = false ↔ ∃ p, a.has p = true := by
  rcases a with ⟨_ | _, _ | _, _ | _⟩ <;> simp [PortSet.isEmpty] <;>
    first
      | (intro x; cases x <;> rfl)
      | exact ⟨.h0, rfl⟩
      | exact ⟨.h1, rfl⟩
      | exact ⟨.h2, rfl⟩

/-! ## Marked counts (R129) -/

/-- The records marked for a port after an update are those before it, plus the marks set, less the marks removed. -/
theorem countP_marks (p : PortId) (f : PointRecord → PointRecord → Prop) (before after : List PointRecord)
    (h : List.Forall₂ f before after) :
    after.countP (fun r => r.mark.has p) + marksRemoved p before after =
      before.countP (fun r => r.mark.has p) + marksSet p before after := by
  induction h with
  | nil => rfl
  | @cons b a bs as _ _ ih =>
    simp only [marksRemoved, marksSet, List.zip_cons_cons, List.countP_cons] at ih ⊢
    cases b.mark.has p <;> cases a.mark.has p <;> simp <;> omega

/-- An update of the point records keeps the law that each marked count is the number of records marked for the port (R129). -/
theorem State.updatePoints_marks (s : State) (g : DirSlot → PointRecord → PointRecord) (p : PortId)
    (h : (s.port p).markedCount = s.marksOf p) :
    ((s.updatePoints g).port p).markedCount = (s.updatePoints g).marksOf p := by
  have hl : s.points.toList.length = (tabMap g s.points).toList.length := by simp
  have key := countP_marks p (fun _ _ => True) s.points.toList (tabMap g s.points).toList
    (List.forall₂_iff_get.mpr ⟨hl, fun _ _ _ => trivial⟩)
  rw [State.updatePoints_port]
  simp only [PortRecord.recount, State.marksOf, State.updatePoints_points] at *
  omega

end Sys2Proof.Machine
end

