-- ==== Sys2Proof/Laws/Records.lean ====
section
/-! SUPPORT. What any command can do to the part, said once: it takes the state through a run of changes, each of which takes the
records it touches through a record step or a lease step. -/

namespace Sys2Proof.Machine

/-- One thing that can happen to a point record, with the condition under which it happens. -/
inductive RecordStep (r : PointRecord) : PointRecord → Prop where
  /-- Reset (R26). -/
  | reset : RecordStep r PointRecord.reset
  /-- Reservation (R9). -/
  | reserve (n : NodeSlot) (index offset : Nat) (d : Descriptor) : r.state = .free → d.kind ≠ .pad →
      RecordStep r (reservedRecord r.generation n index offset d)
  /-- Release of a reservation (R12). -/
  | unreserve : r.state = .reserved → RecordStep r r.freed
  /-- Publication (R13). -/
  | publish : r.state = .reserved → RecordStep r { r with state := .live }
  /-- Loss of the node (R14, R95). -/
  | lose : r.state = .live → RecordStep r (report r r.lose)
  /-- Return of a LOST node (R14). -/
  | back : r.state = .orphaned → RecordStep r (report r { r with state := .live })
  /-- Retirement (R15). -/
  | retire : r.published = true → RecordStep r r.retire
  /-- A taken EXCHANGE answer (R89 to R92). -/
  | exchanged (ans : Answer) : r.state = .live → RecordStep r (report r (r.exchanged ans))
  /-- A taken CLEAR_HOLD answer (R93). -/
  | holdCleared : r.state = .live → RecordStep r (report r r.holdCleared)
  /-- The return of a RESYNC node (R96). -/
  | resyncReturn : r.state = .live → RecordStep r (report r r.resyncReturn)
  /-- A failed EXCHANGE or CLEAR_HOLD (R94). -/
  | exchangeFailed : r.state = .live → RecordStep r (report r r.exchangeFailed)
  /-- A failed EXCHANGE or CLEAR_HOLD that loses the node (R94, R95). -/
  | failedAndLost : r.state = .live → RecordStep r (report r r.exchangeFailed.lose)
  /-- The in-flight value is cleared (R43, R78). -/
  | clearInFlight : RecordStep r { r with inFlight := none }
  /-- The snapshot (R77). -/
  | snapshot : r.state = .live → r.direction = .out → RecordStep r { r with inFlight := some r.demand }
  /-- WRITE (R99). -/
  | write (v : Word32) : r.published = true → r.direction = .out → r.lease ≠ none → RecordStep r (report r (r.setDemand v))
  /-- SET_SAFE (R101). -/
  | setSafe (v : Word32) : r.published = true → r.direction = .out → r.lease ≠ none → RecordStep r (report r (r.setSafe v))
  /-- SUBSTITUTE (R102). -/
  | substitute (p : PortId) (v : Word32) : r.published = true → r.direction = .inp →
      RecordStep r (report r (r.substituteBy p v))
  /-- UNSUBSTITUTE (R104). -/
  | endSubstitution : r.published = true → r.direction = .inp → RecordStep r (report r r.endSubstitution)
  /-- CLAIM (R113). -/
  | claim (k : LeaseIndex) : r.published = true → r.direction = .out → RecordStep r (report r { r with lease := some k })
  /-- The release step of a member (R117). -/
  | release : RecordStep r (report r r.release)
  /-- The close of a session: release and end of substitution (R124, R105). -/
  | closeFor (p : PortId) (member : Bool) : RecordStep r (report r (r.closeFor p member))
  /-- WATCH (R131). -/
  | watch (p : PortId) : r.published = true → RecordStep r (r.watchedBy p)
  /-- UNWATCH, the acknowledgement of a RETIRED record, the close of a session (R132, R136, R139). -/
  | unwatch (p : PortId) : RecordStep r (r.dropWatcher p)
  /-- The acknowledgement of a LIVE or ORPHANED record (R136). -/
  | acknowledge (p : PortId) : r.published = true → RecordStep r { r with mark := r.mark.drop p }
  /-- SET_DEADBAND (R133). -/
  | setDeadband (d : Nat) : r.published = true → r.direction = .inp →
      RecordStep r { r with deadband := d, markRef := r.value }

/-- One thing that can happen to a lease record. -/
inductive LeaseStep (r : LeaseRecord) : LeaseRecord → Prop where
  /-- OPEN_LEASE (R111). -/
  | opened (p : PortId) (term : Nat) : r.state = .free → 20 ≤ term → term ≤ 60000 → LeaseStep r (r.opened p term)
  /-- RENEW (R115). -/
  | renewed : r.state ≠ .free → r.state ≠ .lapsed → LeaseStep r { r with remaining := r.term, lostMembers := 0 }
  /-- CLAIM (R113). -/
  | claimed (members : List DirSlot) : r.state ≠ .free → r.state ≠ .lapsed → members.length ≤ 32 →
      LeaseStep r { r with members := members }
  /-- RELEASE (R118). -/
  | released (members : List DirSlot) : members.Sublist r.members → LeaseStep r { r with members := members }
  /-- The retirement of members (R123). -/
  | lost (gone : DirSlot → Bool) : LeaseStep r (r.loseMembers gone)
  /-- A REVOKE (R121). -/
  | lapsed (cause : LapseCause) : r.state ≠ .free → r.state ≠ .lapsed → LeaseStep r (r.lapse cause)
  /-- CLOSE_LEASE and the close of a session (R119, R124). -/
  | freed : LeaseStep r r.freed
  /-- A tick of the lease clock (R114). -/
  | tick : LeaseStep r r.tick

/-- One change of the part. -/
inductive Change (s : State) : State → Prop where
  | points (g : DirSlot → PointRecord → PointRecord) :
      (∀ i, g i (s.point i) = s.point i ∨ RecordStep (s.point i) (g i (s.point i))) → Change s (s.updatePoints g)
  | node (n : NodeSlot) (r : NodeRecord) : Change s (s.setNode n r)
  | nodes (f : NodeSlot → NodeRecord → NodeRecord) : Change s (s.mapNodes f)
  | names (m : List (Text × DirSlot)) : Change s (s.setNameMap m)
  | link (l : LinkId) (r : LinkRecord) : Change s (s.setLink l r)
  | lease (k : LeaseIndex) (r : LeaseRecord) : LeaseStep (s.leaseAt k) r → Change s (s.setLease k r)
  | leases (f : LeaseIndex → LeaseRecord → LeaseRecord) :
      (∀ k, f k (s.leaseAt k) = s.leaseAt k ∨ LeaseStep (s.leaseAt k) (f k (s.leaseAt k))) → Change s (s.mapLeases f)
  /-- A change of a port's session, mask, cursor or count: never of its slots, its window or its notices. -/
  | session (p : PortId) (r : PortRecord) :
      r.slots = (s.port p).slots ∧ r.window = (s.port p).window ∧ r.frameError = (s.port p).frameError ∧
          r.overrun = (s.port p).overrun →
        (r.markedCount = (s.port p).markedCount ∨ (r.markedCount = 0 ∧ ∀ i, (s.point i).mark.has p = false)) →
      Change s (s.setPort p r)

/-- The one state passes to the other by changes. -/
def Follows (s t : State) : Prop := Relation.ReflTransGen Change s t

theorem Follows.refl (s : State) : Follows s s := Relation.ReflTransGen.refl

theorem Follows.trans {s t u : State} (h : Follows s t) (h' : Follows t u) : Follows s u := Relation.ReflTransGen.trans h h'

/-- An update of the records, each of which it leaves or takes through one step. -/
theorem Follows.updatePoints {s : State} {g : DirSlot → PointRecord → PointRecord}
    (h : ∀ i, g i (s.point i) = s.point i ∨ RecordStep (s.point i) (g i (s.point i))) : Follows s (s.updatePoints g) :=
  Relation.ReflTransGen.single (.points g h)

/-- An event, at which each record is left or takes one step. -/
theorem Follows.event {s : State} {f : DirSlot → PointRecord → PointRecord}
    (h : ∀ i, f i (s.point i) = s.point i ∨ RecordStep (s.point i) (report (s.point i) (f i (s.point i)))) :
    Follows s (s.event f) := .updatePoints fun i => by
  obtain h | h := h i
  · exact .inl (by rw [h, report_self])
  · exact .inr h

/-- What every change keeps holds of every state that follows. -/
theorem Follows.keeps {s t : State} (h : Follows s t) (P : State → Prop) (hP : ∀ s t, Change s t → P s → P t) (hs : P s) :
    P t := by
  induction h with
  | refl => exact hs
  | tail _ hstep ih => exact hP _ _ hstep ih

/-- What every record step keeps holds of every record that follows. -/
theorem Follows.records {s t : State} (h : Follows s t) (Q : PointRecord → Prop)
    (hQ : ∀ r r', RecordStep r r' → Q r → Q r') (hs : ∀ i, Q (s.point i)) : ∀ i, Q (t.point i) := by
  refine h.keeps (fun s => ∀ i, Q (s.point i)) (fun s t hc hs i => ?_) hs
  cases hc <;> simp only [State.updatePoints_point, State.setNode_point, State.mapNodes_point, State.setNameMap_point,
    State.setLink_point, State.setLease_point, State.mapLeases_point, State.setPort_point] <;> try exact hs i
  case points g hg =>
    obtain h | h := hg i
    · rw [h]; exact hs i
    · exact hQ _ _ h (hs i)

/-- What every lease step keeps holds of every lease that follows. -/
theorem Follows.leases {s t : State} (h : Follows s t) (Q : LeaseRecord → Prop)
    (hQ : ∀ r r', LeaseStep r r' → Q r → Q r') (hs : ∀ k, Q (s.leaseAt k)) : ∀ k, Q (t.leaseAt k) := by
  refine h.keeps (fun s => ∀ k, Q (s.leaseAt k)) (fun s t hc hs k => ?_) hs
  cases hc <;> simp only [State.updatePoints_leaseAt, State.setNode_leaseAt, State.mapNodes_leaseAt,
    State.setNameMap_leaseAt, State.setLink_leaseAt, State.setLease_leaseAt, State.mapLeases_leaseAt,
    State.setPort_leaseAt] <;> try exact hs k
  case lease k' r hr =>
    split
    · rename_i hk; subst hk; exact hQ _ _ hr (hs _)
    · exact hs k
  case leases f hf =>
    obtain h | h := hf k
    · rw [h]; exact hs k
    · exact hQ _ _ h (hs k)

theorem follows_setNode (s : State) (n : NodeSlot) (r : NodeRecord) : Follows s (s.setNode n r) := .single (.node n r)
theorem follows_mapNodes (s : State) (f : NodeSlot → NodeRecord → NodeRecord) : Follows s (s.mapNodes f) := .single (.nodes f)
theorem follows_setNameMap (s : State) (m : List (Text × DirSlot)) : Follows s (s.setNameMap m) := .single (.names m)
theorem follows_setLink (s : State) (l : LinkId) (r : LinkRecord) : Follows s (s.setLink l r) := .single (.link l r)
theorem follows_setLease {s : State} {k : LeaseIndex} {r : LeaseRecord} (h : LeaseStep (s.leaseAt k) r) :
    Follows s (s.setLease k r) := .single (.lease k r h)
theorem follows_mapLeases {s : State} {f : LeaseIndex → LeaseRecord → LeaseRecord}
    (h : ∀ k, f k (s.leaseAt k) = s.leaseAt k ∨ LeaseStep (s.leaseAt k) (f k (s.leaseAt k))) : Follows s (s.mapLeases f) :=
  .single (.leases f h)

/-! ## The shared operations -/

theorem follows_retireNode (s : State) (n : NodeSlot) : Follows s (s.retireNode n) := by
  refine ((follows_mapLeases fun k => .inr (.lost _)).trans (follows_setNameMap _ _)).trans (.updatePoints fun i => ?_)
  split
  · rename_i h
    exact .inr (.retire (by simp only [PointRecord.publishedOf, Bool.and_eq_true] at h; exact h.1))
  · exact .inl rfl

theorem follows_releaseReservations (s : State) (n : NodeSlot) : Follows s (s.releaseReservations n) := by
  refine .updatePoints fun i => ?_
  split
  · rename_i h; exact .inr (.unreserve h.1)
  · exact .inl rfl

theorem follows_publish (s : State) (n : NodeSlot) : Follows s (s.publish n) := by
  refine (follows_setNameMap s _).trans (.updatePoints fun i => ?_)
  split
  · rename_i h; exact .inr (.publish h.1)
  · exact .inl rfl

theorem follows_loseNodes (s : State) (sel : NodeSlot → Bool) (cause : LostCause) : Follows s (s.loseNodes sel cause) := by
  refine (follows_mapNodes s _).trans (.event fun i => ?_)
  split
  · rename_i h
    exact .inr (.lose (by simp only [Bool.and_eq_true, beq_iff_eq] at h; exact h.1))
  · exact .inl rfl

theorem follows_releaseMembers (s : State) (members : List DirSlot) : Follows s (s.releaseMembers members) := by
  refine .event fun i => ?_
  split
  · exact .inr .release
  · exact .inl rfl

theorem follows_lapse (s : State) (k : LeaseIndex) (cause : LapseCause) (h : (s.leaseAt k).state ≠ .free)
    (h' : (s.leaseAt k).state ≠ .lapsed) : Follows s (s.lapse k cause) :=
  (follows_releaseMembers s _).trans (follows_setLease (.lapsed cause h h'))

/-! ## The node table at completions -/

theorem follows_refuseNode (s : State) (n : NodeSlot) (r : NodeRecord) (why : RefuseReason) :
    Follows s (s.refuseNode n r why) := (follows_releaseReservations s n).trans (follows_setNode _ _ _)

theorem follows_completeDescribing (s : State) (n : NodeSlot) : Follows s (s.completeDescribing n) :=
  (follows_publish s n).trans (follows_setNode _ _ _)

theorem follows_clearSeqBit (s : State) (l : LinkId) (a : NodeAddr) : Follows s (s.clearSeqBit l a) :=
  follows_setLink _ _ _

theorem follows_newcomer (s : State) (l : LinkId) (a : NodeAddr) (id : Option Identity) :
    Follows s (s.newcomer l a id) := by
  unfold State.newcomer
  dsimp only
  split
  · exact follows_refuseNode _ _ _ _
  · split
    · exact follows_refuseNode _ _ _ _
    · split
      · exact follows_refuseNode _ _ _ _
      · split
        · exact ((follows_setNode s _ _).trans (follows_clearSeqBit _ l a)).trans (follows_completeDescribing _ _)
        · exact (follows_setNode s _ _).trans (follows_clearSeqBit _ l a)

theorem follows_returnNode (s : State) (l : LinkId) (a : NodeAddr) : Follows s (s.returnNode l a) :=
  (follows_setNode _ _ _).trans (follows_clearSeqBit _ _ _)

theorem follows_probeAnswered (s : State) (l : LinkId) (a : NodeAddr) (ans : Answer) :
    Follows s (s.probeAnswered l a ans) := by
  have h1 (r) : Follows s (s.setNode (nodeSlotOf l a) r) := follows_setNode _ _ _
  unfold State.probeAnswered
  dsimp only
  split
  · exact (h1 _).trans (follows_newcomer _ _ _ _)
  · split
    · split
      · refine ((h1 _).trans (follows_returnNode _ _ _)).trans (.event fun i => ?_)
        split
        · rename_i h
          exact .inr (.resyncReturn (by simp only [PointRecord.liveOf, Bool.and_eq_true, beq_iff_eq] at h; exact h.1))
        · exact .inl rfl
      · split
        · refine ((h1 _).trans (follows_returnNode _ _ _)).trans (.event fun i => ?_)
          split
          · rename_i h; exact .inr (.back h.1)
          · exact .inl rfl
        · exact (h1 _).trans (follows_setNode _ _ _)
    · exact ((h1 _).trans (follows_retireNode _ _)).trans (follows_newcomer _ _ _ _)

theorem follows_probeFailed (s : State) (l : LinkId) (a : NodeAddr) : Follows s (s.probeFailed l a) := by
  unfold State.probeFailed
  dsimp only
  split
  · split
    · exact follows_loseNodes _ _ _
    · exact follows_setNode _ _ _
  · exact .refl s

theorem follows_advanceCursor (s : State) (n : NodeSlot) : Follows s (s.advanceCursor n) := by
  unfold State.advanceCursor
  dsimp only
  split
  · exact (follows_setNode _ _ _).trans (follows_completeDescribing _ _)
  · exact follows_setNode _ _ _

theorem follows_placeElement (s : State) (n : NodeSlot) (d : Descriptor) : Follows s (s.placeElement n d) := by
  unfold State.placeElement
  dsimp only
  split
  · exact follows_refuseNode _ _ _ _
  · split
    · exact (follows_setNode s n _).trans (follows_advanceCursor _ n)
    · rename_i hk
      split
      · exact follows_refuseNode _ _ _ _
      · rename_i j hj
        have hfree : (s.point j).state = .free := by
          have := ((lowest_eq_some _ _ _).mp hj).1
          exact eq_of_beq this
        refine ((follows_setNode s n _).trans (.updatePoints fun i => ?_)).trans (follows_advanceCursor _ _)
        split
        · rename_i hi
          subst hi
          exact .inr (.reserve _ _ _ _ hfree hk)
        · exact .inl rfl

theorem follows_describeAnswered (s : State) (n : NodeSlot) (ans : Answer) : Follows s (s.describeAnswered n ans) := by
  unfold State.describeAnswered
  dsimp only
  split
  · exact (follows_releaseReservations _ _).trans (follows_setNode _ _ _)
  · split
    · split
      · exact (follows_setNode _ _ _).trans (follows_placeElement _ _ _)
      · exact follows_refuseNode _ _ _ _
    · exact follows_refuseNode _ _ _ _

theorem follows_describeFailed (s : State) (l : LinkId) (n : NodeSlot) : Follows s (s.describeFailed l n) := by
  unfold State.describeFailed
  dsimp only
  split
  · exact (follows_releaseReservations _ _).trans (follows_setNode _ _ _)
  · exact follows_setNode _ _ _

theorem follows_enterResync (s : State) (n : NodeSlot) (r : NodeRecord) : Follows s (s.enterResync n r) := by
  refine (follows_setNode s n _).trans (.updatePoints fun i => ?_)
  split
  · exact .inr .clearInFlight
  · exact .inl rfl

theorem PointRecord.live_of_liveOf {r : PointRecord} {n : NodeSlot} (h : r.liveOf n = true) : r.state = .live := by
  simp only [PointRecord.liveOf, Bool.and_eq_true, beq_iff_eq] at h; exact h.1

theorem follows_exchangeAnswered (s : State) (n : NodeSlot) (ans : Answer) : Follows s (s.exchangeAnswered n ans) := by
  unfold State.exchangeAnswered
  dsimp only
  split
  · exact follows_enterResync _ _ _
  · refine (follows_setNode s n _).trans (.event fun i => ?_)
    split
    · rename_i h; exact .inr (.exchanged ans (PointRecord.live_of_liveOf h))
    · exact .inl rfl

theorem follows_clearHoldAnswered (s : State) (n : NodeSlot) (ans : Answer) : Follows s (s.clearHoldAnswered n ans) := by
  unfold State.clearHoldAnswered
  dsimp only
  split
  · exact follows_enterResync _ _ _
  · refine (follows_setNode s n _).trans (.event fun i => ?_)
    split
    · rename_i h; exact .inr (.holdCleared (PointRecord.live_of_liveOf h))
    · exact .inl rfl

theorem follows_exchangeFailed (s : State) (l : LinkId) (n : NodeSlot) : Follows s (s.exchangeFailed l n) := by
  unfold State.exchangeFailed
  dsimp only
  refine (follows_setNode s n _).trans (.event fun i => ?_)
  simp only [State.setNode_point]
  by_cases h : (s.point i).liveOf n = true
  · have := PointRecord.live_of_liveOf h
    simp only [h, if_true]
    split
    · exact .inr (.failedAndLost this)
    · exact .inr (.exchangeFailed this)
  · exact .inl (by simp [h])

theorem follows_takeCompletion (s : State) (l : LinkId) (a : NodeAddr) (kind : CallKind) (ans : Option Answer) :
    Follows s (s.takeCompletion l a kind ans) := by
  unfold State.takeCompletion
  cases kind <;> cases ans <;> dsimp only
  · exact follows_probeFailed _ _ _
  · exact follows_probeAnswered _ _ _ _
  · exact follows_describeFailed _ _ _
  · exact follows_describeAnswered _ _ _
  · exact follows_exchangeFailed _ _ _
  · exact follows_exchangeAnswered _ _ _
  · exact follows_exchangeFailed _ _ _
  · exact follows_clearHoldAnswered _ _ _
  · exact follows_setNode _ _ _
  · exact follows_setNode _ _ _

theorem follows_discardCompletion (s : State) (n : NodeSlot) (kind : CallKind) : Follows s (s.discardCompletion n kind) := by
  unfold State.discardCompletion
  split
  · refine .updatePoints fun i => ?_
    split
    · exact .inr .clearInFlight
    · exact .inl rfl
  · exact .refl s

/-! ## The link engines -/

theorem follows_settleCycle (s : State) (l : LinkId) : Follows s (s.settleCycle l) := follows_setLink _ _ _

theorem follows_startCycle (s : State) (l : LinkId) : Follows s (s.startCycle l) :=
  (follows_setLink _ _ _).trans (follows_settleCycle _ _)

theorem follows_proceed (s : State) (l : LinkId) : Follows s (s.proceed l) := by
  unfold State.proceed
  split
  · split
    · exact .refl s
    · split
      · exact follows_startCycle _ _
      · exact follows_settleCycle _ _
  · exact .refl s

theorem follows_placeCall (s : State) (l : LinkId) (a : NodeAddr) (k : CallKind) (b : List Byte) :
    Follows s (s.placeCall l a k b) := follows_setLink _ _ _

theorem follows_completeCall (s : State) (l : LinkId) (c : Call) (a : NodeAddr) (ans : Option Answer) :
    Follows s (s.completeCall l c a ans) := by
  unfold State.completeCall
  dsimp only
  have h1 : Follows s (s.setLink l ((s.link l).endCall c ans)) := follows_setLink _ _ _
  refine Follows.trans ?_ (follows_proceed _ _)
  split
  · exact h1.trans (follows_takeCompletion _ _ _ _ _)
  · exact h1.trans (follows_discardCompletion _ _ _)

theorem follows_attemptFails (s : State) (l : LinkId) : Follows s (s.attemptFails l) := by
  unfold State.attemptFails
  split
  · exact .refl s
  · split
    · exact follows_completeCall _ _ _ _ _
    · exact follows_setLink _ _ _

theorem follows_buildExchange (s : State) (l : LinkId) (a : NodeAddr) : Follows s (s.buildExchange l a) := by
  unfold State.buildExchange
  dsimp only
  split
  · exact follows_placeCall _ _ _ _ _
  · refine Follows.trans (.updatePoints fun i => ?_) (follows_placeCall _ _ _ _ _)
    split
    · rename_i h
      simp only [PointRecord.drivenBy, Bool.and_eq_true, beq_iff_eq] at h
      exact .inr (.snapshot (PointRecord.live_of_liveOf h.1) h.2)
    · exact .inl rfl

theorem follows_buildService (s : State) (l : LinkId) (c : ServiceClass) (a : NodeAddr) :
    Follows s (s.buildService l c a) := by
  unfold State.buildService
  cases c <;> exact (follows_setLink _ _ _).trans (follows_placeCall _ _ _ _ _)

theorem follows_buildNext (s : State) (l : LinkId) : Follows s (s.buildNext l) := by
  unfold State.buildNext
  split
  · exact (follows_setLink _ _ _).trans (follows_buildExchange _ _ _)
  · split
    · split
      · exact (follows_setLink _ _ _).trans (follows_buildService _ _ _ _)
      · exact follows_proceed _ _
    · exact follows_proceed _ _

theorem follows_callBuild (s : State) (l : LinkId) : Follows s (s.callBuild l) := by
  unfold State.callBuild
  dsimp only
  split
  · exact .refl s
  · split
    · exact .refl s
    · split
      · exact .refl s
      · exact follows_buildNext _ _
    · exact follows_setLink _ _ _

theorem follows_stopNodes (s : State) (l : LinkId) : Follows s (s.stopNodes l) := by
  unfold State.stopNodes
  refine ((follows_loseNodes s _ _).trans (.updatePoints fun i => ?_)).trans (follows_mapNodes _ _)
  split
  · rename_i h; exact .inr (.unreserve h.1)
  · exact .inl rfl

/-! ## Time -/

theorem follows_clockTick (s : State) : Follows s s.clockTick := by
  have h := (follows_releaseMembers s s.expiringMembers).trans
    (follows_mapLeases (f := fun _ r => r.tick) fun _ => .inr .tick)
  exact (h.trans (follows_setLink _ .l0 _)).trans (follows_setLink _ .l1 _)

/-! ## Requests -/

/-- What a command of the request engine or of the links comes to: a run of changes, and for a grant also the end of the grant. -/
def Granted (s t : State) : Prop :=
  Follows s t ∨ ∃ p e u r, s.nextRequest = some (p, e) ∧ Follows s u ∧ t = u.finishGrant p r

/-- A grant is a run of changes and its end, when its rule is a run of changes. -/
theorem Granted.grantOf {α : Type} {s : State} {mine : Byte → Bool} {pol : Policy} {form : List Byte → Option α}
    {act : PortId → α → State → State × Response} (h : ∀ p a, Follows s (act p a s).1) :
    Granted s (s.grantOf mine pol form act) := by
  obtain h' | ⟨p, e, hn, -, ⟨r, h'⟩ | ⟨a, -, -, -, -, h'⟩⟩ := s.grantOf_cases mine pol form act
  · rw [h']; exact .inl (.refl s)
  · rw [h']; exact .inr ⟨p, e, s, _, hn, .refl s, rfl⟩
  · rw [h']; exact .inr ⟨p, e, _, _, hn, h p a, rfl⟩

theorem Granted.grant {α : Type} {s : State} {code : Byte} {pol : Policy} {form : List Byte → Option α}
    {act : PortId → α → State → State × Response} (h : ∀ p a, Follows s (act p a s).1) :
    Granted s (s.grant code pol form act) := Granted.grantOf h

/-- A lease handle that names a lease (R108). -/
theorem State.leaseNamed_spec {s : State} {h : Nat × Nat} {k : LeaseIndex} (hk : s.leaseNamed h = some k) :
    h.1 = k.val ∧ (s.leaseAt k).state ≠ .free ∧ (s.leaseAt k).serial = h.2 := by
  unfold State.leaseNamed at hk
  split at hk
  · dsimp only at hk
    split at hk
    · rename_i hc; cases hk; exact ⟨rfl, hc⟩
    · cases hk
  · cases hk

/-- A lease handle that names a lease of the port (R108). -/
theorem State.leaseHeldBy_spec {s : State} {p : PortId} {h : Nat × Nat} {k : LeaseIndex} (hk : s.leaseHeldBy p h = some k) :
    h.1 = k.val ∧ (s.leaseAt k).state ≠ .free ∧ (s.leaseAt k).serial = h.2 ∧ (s.leaseAt k).holder = some p := by
  unfold State.leaseHeldBy at hk
  split at hk
  · split at hk
    · rename_i hn hh
      cases hk
      obtain ⟨h1, h2, h3⟩ := State.leaseNamed_spec hn
      exact ⟨h1, h2, h3, hh⟩
    · cases hk
  · cases hk

/-- A handle that is accepted, other than for ACK_CHANGES and UNWATCH, names a LIVE or ORPHANED record (R5). -/
theorem State.checkHandle_accepted {s : State} {h : Nat} {i : DirSlot} (hc : s.checkHandle false h = .accepted i) :
    i = handleSlot h ∧ (s.point i).published = true ∧ (s.point i).generation = handleGeneration h := by
  unfold State.checkHandle at hc
  dsimp only at hc
  split at hc <;> rename_i hst
  · cases hc
  · cases hc
  · split at hc
    · cases hc; rename_i hg; exact ⟨rfl, by simp [PointRecord.published, hst], hg⟩
    · cases hc
  · split at hc
    · cases hc; rename_i hg; exact ⟨rfl, by simp [PointRecord.published, hst], hg⟩
    · cases hc
  · split at hc
    · simp at hc
    · cases hc

/-- A handle that ACK_CHANGES and UNWATCH accept names a LIVE, ORPHANED or RETIRED record (R5). -/
theorem State.checkHandle_accepted_retired {s : State} {h : Nat} {i : DirSlot} (hc : s.checkHandle true h = .accepted i) :
    i = handleSlot h ∧ ((s.point i).published = true ∨ (s.point i).state = .retired) ∧
      (s.point i).generation = handleGeneration h := by
  unfold State.checkHandle at hc
  dsimp only at hc
  split at hc <;> rename_i hst
  · cases hc
  · cases hc
  · split at hc
    · cases hc; rename_i hg; exact ⟨rfl, .inl (by simp [PointRecord.published, hst]), hg⟩
    · cases hc
  · split at hc
    · cases hc; rename_i hg; exact ⟨rfl, .inl (by simp [PointRecord.published, hst]), hg⟩
    · cases hc
  · split at hc
    · simp at hc; subst hc; rename_i hg; exact ⟨rfl, .inr hst, hg⟩
    · cases hc

/-- The handles of an all-or-nothing request that are accepted name LIVE or ORPHANED records, in their order (R5). -/
theorem State.checkHandles_accepted {s : State} {hs : List Nat} {slots : List DirSlot}
    (hc : s.checkHandles hs = .accepted slots) :
    slots = hs.map handleSlot ∧ ∀ i ∈ slots, (s.point i).published = true := by
  induction hs generalizing slots with
  | nil => cases hc; simp
  | cons h rest ih =>
    unfold State.checkHandles at hc
    split at hc
    · cases hc
    · rename_i i hi
      split at hc
      · cases hc
      · rename_i is his
        cases hc
        obtain ⟨h1, h2, _⟩ := State.checkHandle_accepted hi
        obtain ⟨h3, h4⟩ := ih his
        subst h1 h3
        exact ⟨rfl, by
          intro j hj
          obtain rfl | hj := List.mem_cons.mp hj
          · exact h2
          · exact h4 j hj⟩

theorem follows_withdrawNode (s : State) (n : NodeSlot) : Follows s (s.withdrawNode n) := by
  unfold State.withdrawNode
  split
  · exact follows_retireNode _ _
  · split
    · exact follows_releaseReservations _ _
    · exact .refl s

theorem follows_eachEntry {α : Type} {act : State → α → State × Result} (h : ∀ s a, Follows s (act s a).1) (s : State)
    (as : List α) : Follows s (eachEntry act s as).1 := by
  induction as generalizing s with
  | nil => exact .refl s
  | cons a rest ih => exact (h s a).trans (ih _)

theorem follows_updatePoint {s : State} {i : DirSlot} {f : PointRecord → PointRecord}
    (h : RecordStep (s.point i) (f (s.point i))) : Follows s (s.updatePoint i f) := by
  refine .updatePoints fun j => ?_
  split
  · rename_i hj; subst hj; exact .inr h
  · exact .inl rfl

theorem follows_watchEntry (p : PortId) (s : State) (h : Nat) : Follows s (watchEntry p s h).1 := by
  unfold watchEntry
  split
  · exact .refl s
  · rename_i i hi; exact follows_updatePoint (.watch p (State.checkHandle_accepted hi).2.1)

theorem follows_unwatchEntry (p : PortId) (s : State) (h : Nat) : Follows s (unwatchEntry p s h).1 := by
  unfold unwatchEntry
  split
  · exact .refl s
  · exact follows_updatePoint (.unwatch p)

theorem follows_ackEntry (p : PortId) (s : State) (a : Nat × BitVec 16) : Follows s (ackEntry p s a).1 := by
  unfold ackEntry
  split
  · exact .refl s
  · rename_i i hi
    split
    · exact .refl s
    · split
      · refine follows_updatePoint ?_
        unfold PointRecord.acknowledgedBy
        split
        · exact .unwatch p
        · rename_i hr
          exact .acknowledge p ((State.checkHandle_accepted_retired hi).2.1.resolve_right hr)
      · exact .refl s

theorem follows_entriesRequest {α : Type} {act : PortId → State → α → State × Result}
    (h : ∀ p s a, Follows s (act p s a).1) (s : State) (p : PortId) (as : List α) :
    Follows s (entriesRequest act p as s).1 := by
  unfold entriesRequest
  split
  · exact .refl s
  · exact follows_eachEntry (h p) s as

theorem State.oneUpdate_follows {s : State} {i : DirSlot} {f : PointRecord → PointRecord}
    (h : RecordStep (s.point i) (report (s.point i) (f (s.point i)))) :
    Follows s (s.event fun j r => if j = i then f r else r) := by
  refine .event fun j => ?_
  split
  · rename_i hj; subst hj; exact .inr h
  · exact .inl rfl

theorem PointRecord.out_of_ne_inp {r : PointRecord} (h : r.direction ≠ .inp) : r.direction = .out := by
  cases hd : r.direction with
  | inp => exact absurd hd h
  | out => rfl

theorem PointRecord.inp_of_ne_out {r : PointRecord} (h : r.direction ≠ .out) : r.direction = .inp := by
  cases hd : r.direction with
  | inp => rfl
  | out => exact absurd hd h

theorem follows_writePoints (s : State) (p : PortId) (a : (Nat × Nat) × List (Nat × Word32)) :
    Follows s (writePoints p a s).1 := by
  unfold writePoints
  split
  · exact .refl s
  split
  · exact .refl s
  rename_i k hk
  split
  · exact .refl s
  split
  · exact .refl s
  rename_i slots hsl
  dsimp only
  split
  · exact .refl s
  rename_i hdir
  split
  · exact .refl s
  rename_i hheld
  split
  · exact .refl s
  split
  · exact .refl s
  split
  · exact .refl s
  obtain ⟨-, hpub⟩ := State.checkHandles_accepted hsl
  refine .event fun i => ?_
  split
  · rename_i hi
    obtain ⟨e, he, hei⟩ := List.any_eq_true.mp hi
    have hmem : i ∈ slots := by
      have := (List.of_mem_zip he).1
      simp only [beq_iff_eq] at hei
      rwa [hei] at this
    refine .inr (.write _ (hpub i hmem) ?_ ?_)
    · refine PointRecord.out_of_ne_inp fun h => hdir ?_
      exact List.any_eq_true.mpr ⟨i, hmem, by simp [h]⟩
    · intro h
      exact hheld (List.any_eq_true.mpr ⟨i, hmem, by simp [h]⟩)
  · exact .inl rfl

theorem follows_setSafePoint (s : State) (p : PortId) (a : (Nat × Nat) × Nat × Word32) :
    Follows s (setSafePoint p a s).1 := by
  unfold setSafePoint
  split
  · exact .refl s
  split
  · exact .refl s
  split
  · exact .refl s
  rename_i i hi
  split
  · exact .refl s
  rename_i hd
  split
  · exact .refl s
  rename_i hl
  split
  · exact .refl s
  refine State.oneUpdate_follows (.setSafe _ (State.checkHandle_accepted hi).2.1 (PointRecord.out_of_ne_inp hd) ?_)
  intro h
  exact hl (by simp [h])

theorem follows_substitutePoint (s : State) (p : PortId) (a : Nat × Word32) : Follows s (substitutePoint p a s).1 := by
  unfold substitutePoint
  split
  · exact .refl s
  rename_i i hi
  split
  · exact .refl s
  rename_i hd
  split
  · exact .refl s
  exact State.oneUpdate_follows (.substitute p _ (State.checkHandle_accepted hi).2.1 (PointRecord.inp_of_ne_out hd))

theorem follows_unsubstitutePoint (s : State) (p : PortId) (h : Nat) : Follows s (unsubstitutePoint p h s).1 := by
  unfold unsubstitutePoint
  split
  · exact .refl s
  rename_i i hi
  split
  · exact .refl s
  rename_i hd
  split
  · exact .refl s
  exact State.oneUpdate_follows (.endSubstitution (State.checkHandle_accepted hi).2.1 (PointRecord.inp_of_ne_out hd))

theorem follows_claimLease (s : State) (p : PortId) (a : (Nat × Nat) × List Nat) : Follows s (claimLease p a s).1 := by
  unfold claimLease
  split
  · exact .refl s
  split
  · exact .refl s
  rename_i k hk
  split
  · exact .refl s
  rename_i hl
  split
  · exact .refl s
  rename_i slots hsl
  split
  · exact .refl s
  rename_i hdir
  split
  · exact .refl s
  split
  · exact .refl s
  rename_i hfull
  obtain ⟨-, hpub⟩ := State.checkHandles_accepted hsl
  refine Follows.trans (.event fun i => ?_) (follows_setLease (.claimed _ (State.leaseHeldBy_spec hk).2.1 hl ?_))
  · split
    · rename_i hi
      have hmem : i ∈ slots := by simpa using hi
      refine .inr (.claim _ (hpub i hmem) (PointRecord.out_of_ne_inp fun h => hdir ?_))
      exact List.any_eq_true.mpr ⟨i, hmem, by simp [h]⟩
    · exact .inl rfl
  · exact Nat.le_of_not_lt hfull

/-- A port that has left a record's watch set holds no mark on it. -/
theorem PointRecord.dropWatcher_mark (r : PointRecord) (p : PortId) : (r.dropWatcher p).mark.has p = false := by
  unfold PointRecord.dropWatcher
  dsimp only
  split
  · simp [PointRecord.freed, PointRecord.reset]
  · simp

theorem follows_closeSession (s : State) (p : PortId) : Follows s (s.closeSession p) := by
  refine (((Follows.event fun i => ?_).trans (follows_mapLeases fun k => ?_)).trans (.updatePoints fun i => ?_)).trans
    (.single (.session p _ ⟨rfl, rfl, rfl, rfl⟩ (.inr ⟨rfl, fun i => ?_⟩)))
  · exact .inr (.closeFor p _)
  · split
    · exact .inr .freed
    · exact .inl rfl
  · exact .inr (.unwatch p)
  · rw [State.updatePoints_point]; exact PointRecord.dropWatcher_mark _ _

theorem follows_setDeadband (s : State) (p : PortId) (a : Nat × Nat) : Follows s (setDeadband p a s).1 := by
  unfold setDeadband
  split
  · exact .refl s
  rename_i i hi
  split
  · exact .refl s
  rename_i hd
  split
  · exact .refl s
  exact follows_updatePoint (.setDeadband _ (State.checkHandle_accepted hi).2.1 (PointRecord.inp_of_ne_out hd))

/-- A change of a port's session, mask or cursor that keeps its marked count. -/
theorem follows_setPort {s : State} {p : PortId} {r : PortRecord} (h : r.slots = (s.port p).slots)
    (h1 : r.window = (s.port p).window) (h2 : r.frameError = (s.port p).frameError) (h3 : r.overrun = (s.port p).overrun)
    (h4 : r.markedCount = (s.port p).markedCount) : Follows s (s.setPort p r) :=
  .single (.session p r ⟨h, h1, h2, h3⟩ (.inl h4))

/-- Every command but a reset, the ends of a reset and of the check, and the windows is a run of changes, with the end of the grant
when it is a grant. -/
theorem exec_granted {c : Instr} {s t : State} (h : exec c s = .next t) (h1 : c ≠ .reset) (h2 : ∀ a b, c ≠ .resetEnd a b)
    (h3 : ∀ b, c ≠ .checkEnd b) (h4 : ∀ p, c ≠ .windowOpen p) (h5 : ∀ p e, c ≠ .windowClose p e) : Granted s t := by
  cases c <;> simp only [exec] at h <;> cases h
  case reset => exact absurd rfl h1
  case resetEnd => exact absurd rfl (h2 _ _)
  case checkEnd => exact absurd rfl (h3 _)
  case windowOpen => exact absurd rfl (h4 _)
  case windowClose => exact absurd rfl (h5 _ _)
  case pollRequest => exact Granted.grant fun _ _ => .refl s
  case unknownRequest => exact Granted.grantOf fun _ _ => .refl s
  case lookup => exact Granted.grant fun _ _ => .refl s
  case listPoints => exact Granted.grant fun _ _ => .refl s
  case describePoint => exact Granted.grant fun _ _ => .refl s
  case pointSummary => exact Granted.grant fun _ _ => .refl s
  case nodeInfo =>
    refine Granted.grant fun _ _ => ?_
    unfold onNodeSlot; split <;> exact .refl s
  case listNodes => exact Granted.grant fun _ _ => .refl s
  case nameNode =>
    refine Granted.grant fun _ _ => ?_
    unfold nameNode
    dsimp only
    split
    · split
      · exact .refl s
      · split
        · exact .refl s
        · split
          · exact .refl s
          · split
            · exact .refl s
            · exact (follows_setNameMap s _).trans (follows_setNode _ _ _)
    · exact .refl s
  case rescanNode =>
    refine Granted.grant fun _ _ => ?_
    unfold onNodeSlot rescanNode; split <;> [(split <;> [exact follows_setNode _ _ _; exact .refl s]); exact .refl s]
  case excludeNode =>
    refine Granted.grant fun _ _ => ?_
    unfold onNodeSlot excludeNode
    dsimp only
    split
    · split
      · exact .refl s
      · exact (follows_withdrawNode s _).trans (follows_setNode _ _ _)
    · exact .refl s
  case includeNode =>
    refine Granted.grant fun _ _ => ?_
    unfold onNodeSlot includeNode; split <;> [(split <;> [exact follows_setNode _ _ _; exact .refl s]); exact .refl s]
  case forgetNode =>
    refine Granted.grant fun _ _ => ?_
    unfold onNodeSlot forgetNode
    dsimp only
    split
    · split
      · exact .refl s
      · exact (follows_withdrawNode s _).trans (follows_setNode _ _ _)
    · exact .refl s
  case startLink =>
    refine Granted.grant fun _ _ => ?_
    unfold onLinkNumber startLinkRule State.startLink
    split
    · split
      · exact .refl s
      · exact .refl s
      · exact ((follows_setLink s _ _).trans (follows_mapNodes _ _)).trans (follows_startCycle _ _)
    · exact .refl s
  case stopLink =>
    refine Granted.grant fun _ _ => ?_
    unfold onLinkNumber stopLinkRule
    split
    · split
      · exact .refl s
      · exact .refl s
      · exact follows_setLink _ _ _
    · exact .refl s
  case setLink =>
    refine Granted.grant fun _ _ => ?_
    unfold setLinkRule
    split
    · exact .refl s
    · split
      · exact .refl s
      · split
        · exact .refl s
        · split
          · exact .refl s
          · exact (follows_setLink s _ _).trans (follows_loseNodes _ _ _)
  case linkStatus =>
    refine Granted.grant fun _ _ => ?_
    unfold onLinkNumber; split <;> exact .refl s
  case read => exact Granted.grant fun _ _ => .refl s
  case write => exact Granted.grant fun p a => follows_writePoints s p a
  case setSafe => exact Granted.grant fun p a => follows_setSafePoint s p a
  case substitute => exact Granted.grant fun p a => follows_substitutePoint s p a
  case unsubstitute => exact Granted.grant fun p a => follows_unsubstitutePoint s p a
  case openLease =>
    refine Granted.grant fun _ _ => ?_
    unfold openLease
    split
    · exact .refl s
    · rename_i ht
      split
      · exact .refl s
      · rename_i k hk
        have hfree := eq_of_beq ((lowest_eq_some _ _ _).mp hk).1
        exact follows_setLease (.opened _ _ hfree (by omega) (by omega))
  case claim => exact Granted.grant fun p a => follows_claimLease s p a
  case release =>
    refine Granted.grant fun _ _ => ?_
    unfold releaseLease
    split
    · exact .refl s
    · split
      · exact .refl s
      · exact (follows_releaseMembers s _).trans (follows_setLease (.released _ List.filter_sublist))
  case renew =>
    refine Granted.grant fun _ _ => ?_
    unfold renewLease
    dsimp only
    split
    · exact .refl s
    · rename_i k hk
      split
      · exact .refl s
      · rename_i hl
        exact follows_setLease (.renewed (State.leaseHeldBy_spec hk).2.1 hl)
  case closeLease =>
    refine Granted.grant fun _ _ => ?_
    unfold closeLeaseRule
    split
    · exact .refl s
    · exact (follows_releaseMembers s _).trans (follows_setLease .freed)
  case revoke =>
    refine Granted.grant fun _ _ => ?_
    unfold revokeLease
    split
    · exact .refl s
    · rename_i k hk
      split
      · exact .refl s
      · rename_i hl
        exact follows_lapse _ _ _ (State.leaseNamed_spec hk).2.1 hl
  case leaseInfo => exact Granted.grant fun _ _ => .refl s
  case watch => exact Granted.grant fun p a => follows_entriesRequest follows_watchEntry s p a
  case unwatch => exact Granted.grant fun p a => follows_entriesRequest follows_unwatchEntry s p a
  case setDeadband => exact Granted.grant fun p a => follows_setDeadband s p a
  case nextChanges => exact Granted.grant fun _ _ => follows_setPort rfl rfl rfl rfl rfl
  case ackChanges => exact Granted.grant fun p a => follows_entriesRequest follows_ackEntry s p a
  case deviceInfo => exact Granted.grant fun _ _ => .refl s
  case openSession =>
    refine Granted.grant fun p _ => ?_
    unfold openSession
    dsimp only
    split
    · exact (follows_closeSession s p).trans (follows_setPort rfl rfl rfl rfl rfl)
    · exact follows_setPort rfl rfl rfl rfl rfl
  case closeSession => exact Granted.grant fun p _ => follows_closeSession s p
  case setAttention =>
    refine Granted.grant fun _ _ => ?_
    unfold setAttention
    split
    · exact .refl s
    · exact follows_setPort rfl rfl rfl rfl rfl
  case resetDevice => exact Granted.grant fun _ _ => .refl s
  case leaseClockTick => exact .inl <| follows_clockTick s
  case leaseExpiry =>
    split
    · split
      · exact .inl <| follows_clockTick s
      · exact .inl (.refl s)
    · exact .inl (.refl s)
  case cycleTimerExpiry =>
    split
    · unfold State.cycleExpiry
      dsimp only
      split
      · exact .inl (follows_startCycle _ _)
      · split
        · exact .inl (follows_setLink _ _ _)
        · exact .inl ((follows_setLink s _ _).trans (follows_proceed _ _))
    · exact .inl (.refl s)
  case callBuild l => exact .inl <| follows_callBuild s l
  case attemptRetry =>
    split
    · exact .inl (.refl s)
    · split
      · exact .inl (.refl s)
      · split
        · exact .inl (.refl s)
        · exact .inl ((follows_setLink s _ _).trans (follows_setNode _ _ _))
  case answerReceived =>
    split
    · exact .inl (.refl s)
    · split
      · exact .inl <| follows_completeCall _ _ _ _ _
      · exact .inl <| follows_attemptFails _ _
  case replyTimeout l => exact .inl <| follows_attemptFails s l
  case answerBadLength l b =>
    split
    · exact .inl <| follows_attemptFails s l
    · exact .inl (.refl s)
  case answerTruncated l => exact .inl <| follows_attemptFails s l
  case framingFault l => exact .inl <| follows_attemptFails s l
  case broadcastParkCompletion =>
    split
    · exact .inl ((follows_stopNodes s _).trans (follows_setLink _ _ _))
    · exact .inl (.refl s)

end Sys2Proof.Machine
end

