-- ==== Sys2Proof/Laws/Spi.lean ====
section
/-! SUPPORT. What the bytes of a window are (R141): any run of sampled levels is the bits of some bytes and fewer than eight more, and the bytes
clocked in are those bytes. -/

namespace Sys2Proof.Machine

theorem overSpi_eq (bytes : List Byte) : overSpi bytes = bytes.flatMap spiBits := rfl

/-- Eight bits taken out of a byte make that byte. -/
theorem byteOfBits_getLsbD (b : Byte) :
    byteOfBits [b.getLsbD 0, b.getLsbD 1, b.getLsbD 2, b.getLsbD 3, b.getLsbD 4, b.getLsbD 5, b.getLsbD 6, b.getLsbD 7] = b := by
  revert b; decide +kernel

/-- A part of a byte is no byte. -/
theorem clockedBytes_of_length_lt {bits : List Bool} (h : bits.length < 8) : clockedBytes bits = [] := by
  unfold clockedBytes
  split
  · simp only [List.length_cons] at h; omega
  · rfl

/-- The bits after the last complete byte are discarded. -/
theorem clockedBytes_overSpi (bytes : List Byte) {rest : List Bool} (h : rest.length < 8) :
    clockedBytes (overSpi bytes ++ rest) = bytes := by
  rw [overSpi_eq]
  induction bytes with
  | nil => exact clockedBytes_of_length_lt h
  | cons b t ih =>
    simp only [List.flatMap_cons, spiBits, List.cons_append, List.nil_append, clockedBytes, byteOfBits_getLsbD]
    exact congrArg _ ih

/-- The bits of eight levels read as a byte are those levels. -/
theorem spiBits_byteOfBits (b7 b6 b5 b4 b3 b2 b1 b0 : Bool) :
    spiBits (byteOfBits [b0, b1, b2, b3, b4, b5, b6, b7]) = [b7, b6, b5, b4, b3, b2, b1, b0] := by
  revert b7 b6 b5 b4 b3 b2 b1 b0; decide +kernel

/-- Every run of levels is the bits of its complete bytes and fewer than eight more. -/
theorem exists_overSpi_append : (bits : List Bool) → ∃ rest, rest.length < 8 ∧ bits = overSpi (clockedBytes bits) ++ rest
  | b7 :: b6 :: b5 :: b4 :: b3 :: b2 :: b1 :: b0 :: bits => by
    obtain ⟨rest, h, e⟩ := exists_overSpi_append bits
    refine ⟨rest, h, ?_⟩
    rw [overSpi_eq] at e ⊢
    simp only [clockedBytes, List.flatMap_cons, spiBits_byteOfBits, List.cons_append, List.nil_append, ← e]
  | [] | [_] | [_, _] | [_, _, _] | [_, _, _, _] | [_, _, _, _, _] | [_, _, _, _, _, _] | [_, _, _, _, _, _, _] =>
    ⟨_, by simp, rfl⟩

end Sys2Proof.Machine
end

