-- ==== Sys2Proof/Machine/FieldNode.lean ====
section
/-! DEFINITION. What a conforming node does (ch. 3.4, R66 to R70). A node is another device on the line: it is no state of the part,
and no command reads this file. It says which answers the commands ANSWER_RECEIVED and REPLY_TIMEOUT carry when the nodes on the
line behave as the manual says (log entry 18). -/

namespace Sys2Proof.Machine

/-- A remote I/O node. `identity` is its 16-byte PROBE payload, `descriptors` its element descriptors in index order, `inputs` what its
inputs read now, `lastAccepted` the sequence bit and answer of its last accepted call, `holdLeft` the ms before it enters hold. -/
structure FieldNode where
  address : NodeAddr
  identity : List Byte
  descriptors : List (List Byte)
  inputs : List Byte
  outputs : List Byte
  safeOutputs : List Byte
  outputLength : Nat
  holdTime : Nat
  holdLeft : Nat
  fresh : Bool
  held : Bool
  fault : Bool
  parked : Bool
  lastAccepted : Option (Bool × List Byte)
deriving DecidableEq, Repr

/-- A node after power-up: not parked, not in hold, its safe outputs applied, its hold timer started, FRESH until its first EXCHANGE
(R67). -/
def FieldNode.powerUp (n : FieldNode) : FieldNode :=
  { n with
    outputs := n.safeOutputs, holdLeft := n.holdTime, fresh := true, held := false, parked := false, lastAccepted := none }

/-- One millisecond without an EXCHANGE or CLEAR_HOLD: at the end of its hold time the node enters hold and applies its safe outputs
(R69). -/
def FieldNode.tick (n : FieldNode) : FieldNode :=
  if n.holdLeft ≤ 1 then { n with holdLeft := 0, held := true, outputs := n.safeOutputs }
  else { n with holdLeft := n.holdLeft - 1 }

/-- The node status byte: FRESH in bit 0, HELD in bit 1, FAULT in bit 2 (ch. 8.6). -/
def FieldNode.status (n : FieldNode) : Byte :=
  byte ((if n.fresh then 1 else 0) + (if n.held then 2 else 0) + (if n.fault then 4 else 0))

/-- An answer frame of the node (R61, R66, ch. 8.6). -/
def FieldNode.answerFrame (n : FieldNode) (kind : Byte) (payload : List Byte) : List Byte :=
  let body := byte (0x80 + (n.address.val + 1)) :: kind :: n.status :: byte payload.length :: payload
  body ++ [crc8 body]

/-- What a node makes of a call it takes as new, by call kind code: its state after it and the answer payload, or `none` when it neither
acts nor answers (R67 to R70). At a DESCRIBE that does not name one of its elements in a payload of one byte, and at a kind code that names no
call, the spec is silent; that the node neither acts nor answers is the model's DESIGN CHOICE, as is that it does not look at the payload of a
PROBE, CLEAR_HOLD or PARK (log entry 31). The status bits of the answer are those after the act, but for FRESH, which the first EXCHANGE's own
answer still carries. -/
def FieldNode.act (n : FieldNode) (kind : Byte) (code : Nat) (payload : List Byte) : Option (FieldNode × List Byte) :=
  match code with
  | 1 =>
    let n1 := { n with parked := false, lastAccepted := none }
    some (n1, n1.answerFrame kind n.identity)
  | 2 =>
    match payload with
    | [i] => n.descriptors[i.toNat]?.map fun d => (n, n.answerFrame kind d)
    | _ => none
  | 3 =>
    if payload.length = n.outputLength then
      let n1 := if n.held then n else { n with outputs := payload, holdLeft := n.holdTime }
      some ({ n1 with fresh := false }, n1.answerFrame kind n.inputs)
    else none
  | 4 =>
    let n1 := { n with held := false, holdLeft := n.holdTime }
    some (n1, n1.answerFrame kind [])
  | 5 =>
    let n1 := { n with outputs := n.safeOutputs, parked := true }
    some (n1, n1.answerFrame kind [])
  | _ => none

/-- A node receives an addressed call with a good CRC (R66): a PROBE is acted on always, a parked node acts on nothing else, a repeat is
answered with the stored answer, and any other call is new and is recorded as the last accepted call. -/
def FieldNode.called (n : FieldNode) (kind : Byte) (payload : List Byte) : FieldNode × Option (List Byte) :=
  let code := kind.toNat % 16
  let bit := kind.msb
  if code = 1 then
    match n.act kind code payload with
    | some out => (out.1, some out.2)
    | none => (n, none)
  else if n.parked then (n, none)
  else
    match n.lastAccepted with
    | some (b, stored) =>
      if b = bit then (n, some stored)
      else
        match n.act kind code payload with
        | some out => ({ out.1 with lastAccepted := some (bit, out.2) }, some out.2)
        | none => (n, none)
    | none =>
      match n.act kind code payload with
      | some out => ({ out.1 with lastAccepted := some (bit, out.2) }, some out.2)
      | none => (n, none)

/-- A node receives a frame on the line (R66, R70): it acts on a good frame addressed to it, or on a broadcast PARK, which it does not
answer. -/
def FieldNode.receive (n : FieldNode) (frame : List Byte) : FieldNode × Option (List Byte) :=
  match frame with
  | address :: kind :: len :: rest =>
    let payload := rest.take len.toNat
    if rest.drop len.toNat = [crc8 (address :: kind :: len :: payload)] then
      if address = byte (n.address.val + 1) then n.called kind payload
      else if address = 0 ∧ kind.toNat % 16 = 5 ∧ n.parked = false then
        ({ n with outputs := n.safeOutputs, parked := true }, none)
      else (n, none)
    else (n, none)
  | _ => (n, none)

end Sys2Proof.Machine
end

