-- ==== Sys2Proof/Tests/Slice0.lean ====
section
/-! SUPPORT. Tests of the model on values the manual gives or that follow by hand from its rules, and for each obligation that has
hypotheses a state and operands that meet them. -/

namespace Sys2Proof.Tests

open Sys2Proof Sys2Proof.Machine

set_option Elab.async false
set_option synthInstance.maxHeartbeats 200000
set_option synthInstance.maxSize 1000

/-! ## Well-formed commands (R61, R106) -/

theorem test_wellFormed_refuses :
    (Instr.leaseExpiry 64).wellFormed = false ∧ (Instr.answerBadLength .l0 40).wellFormed = false ∧
      (Instr.answerReceived .l0 [0x81, 0x01, 0x00]).wellFormed = false ∧
      (Instr.answerReceived .l0 [0x81, 0x04, 0x00, 0x01, 0x00]).wellFormed = false := by decide

theorem test_wellFormed_takes :
    (Instr.leaseExpiry 63).wellFormed = true ∧ (Instr.answerBadLength .l0 41).wellFormed = true ∧
      (Instr.answerReceived .l0 [0x81, 0x04, 0x00, 0x00, 0x5B]).wellFormed = true := by decide

theorem test_no_word_spells_a_command : decodeTableWord 8 0x10 = none := rfl

/-! ## Worked values of the manual -/

/-- R166 and the frames worked through in ch. 8.1. -/
theorem test_crc8 :
    crc8 [0x31, 0x32, 0x33, 0x34, 0x35, 0x36, 0x37, 0x38, 0x39] = 0xF4 ∧ crc8 [0x04, 0x01, 0x01] = 0xB9 ∧
      crc8 [0x05, 0x00, 0x01, 0x00] = 0x5B := by decide +kernel

/-- Ch. 8.2: handle 37:2 is 0x25, 0x04, and handle 40:1 is 0x28, 0x02. -/
theorem test_handles :
    le16 (handleOf 37 { PointRecord.reset with generation := 2 }) = [0x25, 0x04] ∧
      le16 (handleOf 40 { PointRecord.reset with generation := 1 }) = [0x28, 0x02] ∧
      handleSlot (u16 0x25 0x04) = 37 ∧ handleGeneration (u16 0x25 0x04) = 2 := by decide +kernel

/-- Ch. 8.3: a session and marks show as status byte 0x22. -/
theorem test_status_byte : statusBits false true false false false true false = 0x22 := by decide +kernel

/-- Ch. 4.3, the example of node 1/4: the input image 0x51, 0xC8. -/
theorem test_extraction :
    let image : List Byte := [0x51, 0xC8]
    let ready := { PointRecord.reset with kind := .flag, width := 1 }
    let mode := { PointRecord.reset with kind := .bits, width := 4, imageOffset := 4 }
    let level := { PointRecord.reset with kind := .unsigned, width := 8, imageOffset := 8, rawHigh := 150 }
    ready.extracted image = 1 ∧ mode.extracted image = 5 ∧ level.extracted image = 200 ∧ level.inRange 200 = false ∧
      ({ level with kind := .signed }).extracted image = 0xFFFFFFC8 := by decide +kernel

/-- R33: the default station name of node 0/5 with the type text TB16. -/
theorem test_default_name :
    defaultName [0x54, 0x42, 0x31, 0x36] .l0 4 = [0x54, 0x42, 0x31, 0x36, 0x2D, 0x30, 0x30, 0x35] := by decide +kernel

/-- R4, R106: generation 127 and serial 255 are followed by 1. -/
theorem test_wraps : nextGeneration 127 = 1 ∧ nextGeneration 126 = 127 ∧ nextSerial 255 = 1 ∧ nextSerial 254 = 255 := by decide +kernel

/-- R142: a POLL is well formed, a wrong CRC is a frame error, and a length byte of 0 is no frame. -/
theorem test_judge_frame :
    judgeFrame [0x04, 0x01, 0x01, 0xB9, 0x00] = .wellFormed 1 1 [] ∧ judgeFrame [0x04, 0x01, 0x01, 0xB8] = .frameError ∧
      judgeFrame [0x04, 0x01, 0x01] = .frameError ∧ judgeFrame [0x00, 0x01] = .noFrame ∧ judgeFrame [] = .noFrame := by decide +kernel

/-- R66 to R69: a node in hold keeps its safe outputs at an EXCHANGE, answers HELD and FRESH, and answers a repeat alike. -/
theorem test_field_node :
    let n : FieldNode :=
      { address := 2, identity := [], descriptors := [], inputs := [0x31], outputs := [0x02], safeOutputs := [0x02]
        outputLength := 1, holdTime := 100, holdLeft := 0, fresh := true, held := true, fault := false, parked := false
        lastAccepted := none }
    let call : Call := ⟨some 2, .exchange, true, [0x01], 1, true, 1, false⟩
    let one := n.receive call.frame
    one.1.outputs = [0x02] ∧ one.1.fresh = false ∧ one.2.bind (acceptAnswer call) = some ⟨true, true, false, [0x31]⟩ ∧
      (one.1.receive call.frame).2 = one.2 := by decide +kernel

/-! ## A small running part

Node 0 (address 1 of link 0) is ONLINE as TB16-001 with an UNSIGNED IN point in slot 0, FLAG and BITS OUT points in slots 1 and 2, and
a SIGNED IN point in slot 5 that H0 has substituted; slot 3 is RETIRED. H0 is the supervisor; H0 and H1 have sessions. H0 holds lease 0 with the point of slot 1 and
lease 2, which has lapsed; H1 holds lease 1 with the point of slot 2. -/

def tb16 : Text := [0x54, 0x42, 0x31, 0x36]
def tb16Name : Text := [0x54, 0x42, 0x31, 0x36, 0x2D, 0x30, 0x30, 0x31]
def tb16Id : Identity := ⟨tb16, 1207, 0x5E21A40C, 3, 2, 1, 100⟩

def inPoint : PointRecord :=
  { PointRecord.reset with
    state := .live, generation := 1, kind := .unsigned, width := 8, elementName := [0x41], rawHigh := 150, value := 100
    fieldValue := 100, quality := .good, fieldQuality := .good, watch := ⟨true, false, false⟩, deadband := 10
    markRef := 100 }

def outPoint : PointRecord :=
  { PointRecord.reset with
    state := .live, generation := 1, elementIndex := 1, kind := .flag, direction := .out, width := 1, elementName := [0x42]
    rawHigh := 1, applied := some 0, quality := .good, lease := some 0 }

def retiredPoint : PointRecord :=
  { PointRecord.reset with
    state := .retired, generation := 1, revision := 4, watch := ⟨true, false, false⟩, mark := ⟨true, false, false⟩ }

def modePoint : PointRecord :=
  { outPoint with
    elementIndex := 2, kind := .bits, width := 4, imageOffset := 4, elementName := [0x43], rawHigh := 15, demand := 9
    pending := true, lease := some 1 }

def substPoint : PointRecord :=
  { inPoint with
    kind := .signed, imageOffset := 8, elementName := [0x44], value := 7, quality := .substituted
    substPort := some .h0, watch := PortSet.empty, deadband := 0 }

def demo : State :=
  { State.reset with
    device := .ready, supervisors := ⟨true, false, false⟩
    points := ((((State.reset.points.set 0 inPoint).set 1 outPoint).set 2 modePoint).set 3 retiredPoint).set 5 substPoint
    nameMap := [(fullName tb16Name [0x41], 0), (fullName tb16Name [0x42], 1), (fullName tb16Name [0x43], 2),
      (fullName tb16Name [0x44], 5)]
    nodes := State.reset.nodes.set 0
      { NodeRecord.reset with state := .online, identity := tb16Id, stationName := some tb16Name, incarnation := 1 }
    leases := ((State.reset.leases.set 0 ⟨.held, 1, some .h0, 500, 2, [1], 0, none⟩).set 1
      ⟨.held, 1, some .h1, 500, 1, [2], 3, none⟩).set 2 ⟨.lapsed, 1, some .h0, 500, 0, [], 0, some .expired⟩
    link0 := { LinkRecord.reset with state := .running, cycles := 1, cycleTimer := some 0 }
    port0 := { PortRecord.reset with sessionOpen := true, markedCount := 1 }
    port1 := { PortRecord.reset with sessionOpen := true } }

/-- A state with one request waiting at a port. -/
def asking (s : State) (p : PortId) (code : Byte) (params : List Byte) : State :=
  s.setPort p { s.port p with slots := [⟨0x2A, code, params, none⟩] }

/-- The state after a command (the part never stops). -/
def after (c : Instr) (s : State) : State :=
  match exec c s with
  | .next t => t
  | _ => s

/-- The response that a granted request leaves in the head slot of a port. -/
def replyOf (p : PortId) (c : Instr) (s : State) : Option Response :=
  ((after c s).port p).slots.head?.bind fun e => e.response

/-- What H0 is answered in the small running part. -/
def reply (c : Instr) (code : Byte) (params : List Byte) : Option Response := replyOf .h0 c (asking demo .h0 code params)

/-- The state after H0's request. -/
def done (c : Instr) (code : Byte) (params : List Byte) : State := after c (asking demo .h0 code params)

/-! ## Requests, one test each: the response by hand from the rule and the layout of ch. 8.4 -/

theorem test_pollRequest : reply .pollRequest 0x01 [] = some ⟨.badRequest, []⟩ := by decide +kernel
theorem test_unknownRequest : reply .unknownRequest 0x7F [] = some ⟨.badRequest, []⟩ := by decide +kernel
theorem test_lookup :
    reply .lookup 0x10 (0x0A :: (tb16Name ++ [0x2E, 0x42])) = some ⟨.ok, [0x01, 0x02, 0x01, 0x01, 0x02]⟩ := by decide +kernel
theorem test_listPoints :
    reply .listPoints 0x11 [0x01, 0x00, 0xFF, 0x01] =
      some ⟨.ok, [0x00, 0x02, 0x02, 0x01, 0x02, 0x00, 0x01, 0x02, 0x02, 0x02, 0x00, 0x01, 0x02]⟩ := by decide +kernel
theorem test_describePoint :
    reply .describePoint 0x12 [0x02, 0x02] =
      some ⟨.ok, [0x02, 0x00, 0x02, 0x02, 0x01, 0x04, 0x04, 0, 0, 0, 0, 15, 0, 0, 0, 0, 0, 0, 0, 0, 0, 0, 0, 0x00, 0x0A] ++
        tb16Name ++ [0x2E, 0x43]⟩ := by decide +kernel
theorem test_pointSummary :
    reply .pointSummary 0x13 [] = some ⟨.ok, [0xFB, 0x01, 0, 0, 4, 0, 0, 0, 1, 0]⟩ := by decide +kernel
theorem test_nodeInfo :
    reply .nodeInfo 0x20 [0] =
      some ⟨.ok, 0x02 :: tb16 ++ [0xB7, 0x04, 0, 0, 0x0C, 0xA4, 0x21, 0x5E, 3, 2, 1, 10, 8] ++ tb16Name ++
        [1, 0, 0, 0, 0, 0, 0, 0, 0, 0, 0, 0]⟩ := by decide +kernel
theorem test_listNodes : reply .listNodes 0x21 [] = some ⟨.ok, 0x02 :: List.replicate 31 0x00⟩ := by decide +kernel
theorem test_nameNode :
    ((done .nameNode 0x22 [0, 1, 0x5A]).node 0).stationName = some [0x5A] ∧
      (done .nameNode 0x22 [0, 1, 0x5A]).nameMap.map Prod.fst =
        [[0x5A, 0x2E, 0x41], [0x5A, 0x2E, 0x42], [0x5A, 0x2E, 0x43], [0x5A, 0x2E, 0x44]] := by decide +kernel
theorem test_rescanNode : reply .rescanNode 0x23 [0x20] = some ⟨.badRequest, []⟩ := by decide +kernel
theorem test_excludeNode :
    let t := done .excludeNode 0x24 [0]
    (t.node 0).state = .parked ∧ (t.node 0).parkOwed = true ∧ (t.point 0).state = .retired ∧ (t.point 1).state = .free ∧
      (t.leaseAt 0).lostMembers = 1 ∧ t.nameMap = [] ∧ t.port0.markedCount = 2 := by decide +kernel
theorem test_includeNode : reply .includeNode 0x25 [0] = some ⟨.ok, []⟩ := by decide +kernel
theorem test_forgetNode : reply .forgetNode 0x26 [1] = some ⟨.noNode, []⟩ := by decide +kernel
theorem test_startLink :
    let t := done .startLink 0x30 [1]
    t.link1.state = .running ∧ t.link1.cycles = 1 ∧ t.link1.cycleTimer = some 10 ∧ t.link1.complete = false := by
  decide +kernel
theorem test_stopLink :
    let t := done .stopLink 0x31 [0]
    t.link0.state = .stopping ∧ t.link0.cycleTimer = none := by decide +kernel
/-- Hold time 100 ms allows a period of 33 ms and not of 34 ms (R82, R83). -/
theorem test_setLink :
    reply .setLink 0x32 [0, 2, 34, 20, 1, 3, 2, 0xFF, 0xFF] = some ⟨.settingConflict, []⟩ ∧
      (done .setLink 0x32 [0, 2, 33, 20, 1, 3, 2, 0xFF, 0xFF]).link0.pendingPeriod = some 33 := by decide +kernel
theorem test_linkStatus :
    reply .linkStatus 0x33 [0] =
      some ⟨.ok, [1, 2, 10, 20, 1, 3, 2, 0xFF, 0xFF, 0, 1, 0, 0, 0, 0, 0, 0, 0, 0, 0]⟩ := by decide +kernel
theorem test_read :
    reply .read 0x40 [2, 0x05, 0x02, 0x02, 0x02] =
      some ⟨.ok, [2, 0, 7, 0, 0, 0, 4, 0, 0, 100, 0, 0, 0, 0, 0, 9, 0, 0, 0, 1, 0, 0, 0, 0, 0, 0, 1]⟩ := by decide +kernel
theorem test_write :
    let t := done .write 0x41 [0, 1, 2, 0x01, 0x02, 0, 0, 0, 0, 0x01, 0x02, 1, 0, 0, 0]
    (t.point 1).demand = 1 ∧ (t.point 1).pending = true ∧ (t.point 1).revision = 1 := by decide +kernel
theorem test_write_checks :
    reply .write 0x41 [0, 1, 1, 0x02, 0x02, 0, 0, 0, 0] = some ⟨.notHeld, []⟩ ∧
      reply .write 0x41 [0, 1, 1, 0x01, 0x02, 2, 0, 0, 0] = some ⟨.range, []⟩ ∧
      reply .write 0x41 [2, 1, 1, 0x01, 0x02, 0, 0, 0, 0] = some ⟨.lapsed, []⟩ := by decide +kernel
theorem test_setSafe :
    let t := done .setSafe 0x42 [0, 1, 0x01, 0x02, 1, 0, 0, 0]
    (t.point 1).safeValue = 1 ∧ (t.point 1).demand = 0 ∧ (t.point 1).revision = 0 := by decide +kernel
theorem test_substitute :
    let t := done .substitute 0x43 [0x00, 0x02, 150, 0, 0, 0]
    (t.point 0).value = 150 ∧ (t.point 0).quality = .substituted ∧ (t.point 0).markRef = 150 ∧
      t.port0.markedCount = 2 := by decide +kernel
theorem test_unsubstitute :
    let t := done .unsubstitute 0x44 [0x05, 0x02]
    (t.point 5).value = 100 ∧ (t.point 5).quality = .good ∧ (t.point 5).revision = 1 := by decide +kernel
theorem test_openLease :
    reply .openLease 0x50 [20, 0] = some ⟨.ok, [3, 1]⟩ ∧ reply .openLease 0x50 [19, 0] = some ⟨.badSetting, []⟩ ∧
      reply .openLease 0x50 [0x61, 0xEA] = some ⟨.badSetting, []⟩ := by decide +kernel
theorem test_claim :
    reply .claim 0x51 [0, 1, 2, 0x01, 0x02, 0x02, 0x02] = some ⟨.heldElsewhere, [0x02, 0x02, 0x01]⟩ := by decide +kernel
theorem test_release :
    reply .release 0x52 [0, 1, 3, 0x01, 0x02, 0x01, 0x02, 0x00, 0x00] = some ⟨.ok, [3, 0x00, 0x23, 0x10]⟩ ∧
      ((done .release 0x52 [0, 1, 1, 0x01, 0x02]).leaseAt 0).members = [] := by decide +kernel
theorem test_renew :
    replyOf .h1 .renew (asking demo .h1 0x53 [1, 1]) = some ⟨.ok, [3]⟩ ∧
      ((after .renew (asking demo .h1 0x53 [1, 1])).leaseAt 1).remaining = 500 := by decide +kernel
theorem test_closeLease : ((done .closeLease 0x54 [2, 1]).leaseAt 2) = ⟨.free, 1, none, 0, 0, [], 0, none⟩ := by decide +kernel
theorem test_revoke :
    let t := done .revoke 0x55 [1, 1]
    t.leaseAt 1 = ⟨.lapsed, 1, some .h1, 500, 0, [], 3, some .revoked⟩ ∧ (t.point 2).demand = 0 := by decide +kernel
theorem test_leaseInfo :
    reply .leaseInfo 0x56 [1, 1, 0] =
      some ⟨.ok, [1, 1, 0xF4, 0x01, 1, 0, 3, 0, 1, 0, 1, 0x02, 0x02]⟩ := by decide +kernel
theorem test_watch :
    reply .watch 0x60 [2, 0x01, 0x02, 0x03, 0x02] = some ⟨.ok, [2, 0x00, 0x11]⟩ ∧
      (done .watch 0x60 [1, 0x01, 0x02]).port0.markedCount = 2 := by decide +kernel
theorem test_unwatch : ((done .unwatch 0x61 [1, 0x03, 0x02]).point 3).state = .free := by decide +kernel
theorem test_setDeadband :
    ((done .setDeadband 0x62 [0x00, 0x02, 0x00, 0x01]).point 0).deadband = 256 := by decide +kernel
theorem test_nextChanges :
    reply .nextChanges 0x63 [] = some ⟨.ok, [1, 0, 1, 0x03, 0x02, 0x04, 0, 0, 0, 0, 0, 0, 4, 0]⟩ ∧
      (done .nextChanges 0x63 []).port0.scanCursor = 4 := by decide +kernel
theorem test_ackChanges :
    reply .ackChanges 0x64 [2, 0x03, 0x02, 3, 0, 0x00, 0x02, 0, 0] = some ⟨.ok, [2, 0x24, 0x00]⟩ ∧
      (done .ackChanges 0x64 [1, 0x03, 0x02, 4, 0]).port0.markedCount = 0 := by decide +kernel
theorem test_deviceInfo :
    reply .deviceInfo 0x02 [] =
      some ⟨.ok, [0x31, 0x0A, 0x16, 0x42, 1, 0x00, 0x02, 32, 64, 3, 2, 1, 0x01]⟩ := by decide +kernel
theorem test_openSession :
    replyOf .h2 .openSession (asking demo .h2 0x03 []) = some ⟨.ok, [2, 0, 0x00, 0x02, 32, 64, 3, 2]⟩ ∧
      (after .openSession (asking demo .h2 0x03 [])).port2.sessionOpen = true := by decide +kernel
theorem test_closeSession :
    let t := done .closeSession 0x04 []
    t.port0.sessionOpen = false ∧ (t.leaseAt 0).state = .free ∧ (t.leaseAt 1).state = .held ∧ (t.point 5).substPort = none ∧
      (t.point 3).state = .free ∧ t.port0.markedCount = 0 := by decide +kernel
theorem test_setAttention :
    (done .setAttention 0x05 [0, 1]).port0.marksEnabled = false ∧
      reply .setAttention 0x05 [2, 0] = some ⟨.badRequest, []⟩ := by decide +kernel

/-! ## Reset, windows, time and the field link -/

/-- R155, R160, R161: from reset, RESET_END with both SUPSEL levels high and a passed test make the part READY with three supervisors. -/
theorem test_reset_resetEnd_checkEnd :
    let t := after (.checkEnd true) (after (.resetEnd true true) (after .reset demo))
    t.device = .ready ∧ t.supervisors = ⟨true, true, true⟩ ∧ (t.point 0).state = .free ∧ t.link0.state = .off := by
  decide +kernel

/-- Ch. 8.1: the IDLE frame of a part with nothing to report is 0x05, 0x00, 0x01, 0x00, 0x5B. -/
theorem test_windowOpen :
    ((after (.windowOpen .h2) { State.reset with device := .ready }).port2.window) =
      some (.served ⟨[0x05, 0x00, 0x01, 0x00, 0x5B], false, false, false⟩) := by decide +kernel

/-- R141, R160: RESET abandons a window in progress. SDOn is high from then on, also when the part is READY before CSn rises, and the rising
edge only ends the window. -/
theorem test_abandoned_window :
    let open0 := after (.windowOpen .h0) demo
    let t := after (.checkEnd true) (after (.resetEnd false false) (after .reset open0))
    let u := after (.windowClose .h0 ⟨[0x04, 0x09, 0x02, crc8 [0x04, 0x09, 0x02]].flatMap spiBits, true, true⟩) t
    open0.port0.sdoLevel 0 = some false ∧ t.device = .ready ∧ t.port0.sdoLevel 0 = some true ∧ t.port1.sdoLevel 0 = none ∧
      u.port0 = PortRecord.reset := by decide +kernel

/-- R141: 0x2A and 0x81 clocked in, most significant bit first, and three further bits. SDOn of a window with the frame 0x05, 0x81 shows them
in the same order, and the high level after them and in a window that is not served. -/
theorem test_spi_bits :
    clockedBytes [false, false, true, false, true, false, true, false, true, false, false, false, false, false, false, true, true, true, true] =
        [0x2A, 0x81] ∧
      clockedBytes [true, true, true, true, true, true, true] = [] ∧
      ((List.range 20).map (Window.served ⟨[0x05, 0x81], false, false, false⟩).sdoLevel =
        [false, false, false, false, false, true, false, true, true, false, false, false, false, false, false, true, true, true, true, true]) ∧
      (List.range 9).map Window.unserved.sdoLevel = List.replicate 9 true := by decide +kernel

/-- R142, R146: a DEVICE_INFO frame with tag 9 takes a slot, and the grant answers it. -/
theorem test_windowClose :
    (after (.windowClose .h2 ⟨[0x04, 0x09, 0x02, crc8 [0x04, 0x09, 0x02]].flatMap spiBits, true, true⟩)
      (after (.windowOpen .h2) { State.reset with device := .ready })).port2.slots = [⟨0x09, 0x02, [], none⟩] := by
  decide +kernel

/-- R155, R160, R164: the close that acknowledges the OK of a RESET_DEVICE resets the part, which samples SUPSEL 1, 0 and enters CHECKING
with H2 as its supervisor. -/
theorem test_resetDevice :
    let t := after (.windowClose .h0 ⟨[0x04, 0x01, 0x01, 0xB9, 0x00].flatMap spiBits, true, false⟩)
      (after (.windowOpen .h0) (done .resetDevice 0x06 []))
    t.device = .checking ∧ t.supervisors = ⟨false, false, true⟩ ∧ (t.node 0).state = .vacant ∧ t.port0 = PortRecord.reset := by decide +kernel

/-- R114: at one tick lease 0 counts down to 1, and lease 1 lapses with its member released. -/
theorem test_leaseClockTick :
    let t := after .leaseClockTick demo
    (t.leaseAt 0).remaining = 1 ∧ (t.leaseAt 1).state = .lapsed ∧ (t.point 2).lease = none ∧ (t.point 2).demand = 0 := by
  decide +kernel
theorem test_leaseExpiry :
    ((after (.leaseExpiry 1) demo).leaseAt 1).cause = some .expired ∧ ((after (.leaseExpiry 0) demo).leaseAt 0).remaining = 2 := by decide +kernel

/-- R76: an expiry with an ONLINE address left on the exchange list is late, and drops both service turns. -/
theorem test_cycleTimerExpiry :
    let t := after (.cycleTimerExpiry .l0) { demo with link0 := { demo.link0 with exchangeList := [0] } }
    t.link0.lateCycles = 1 ∧ t.link0.droppedService = 2 ∧ t.link0.cycleTimer = none := by decide +kernel

/-- The part with the EXCHANGE of node 0/1 built: demand 0 at offset 0 and 9 at offset 4 make the image 0x90 (R77). -/
def calling : State := after (.callBuild .l0) { demo with link0 := { demo.link0 with exchangeList := [0] } }

theorem test_callBuild :
    calling.link0.call = some ⟨some 0, .exchange, true, [0x90], 1, true, 2, false⟩ ∧ (calling.point 2).inFlight = some 9 := by
  decide +kernel

/-- The EXCHANGE answer of node 0/1 with the input image 0x6E, 0xC8: 110 is 10 from the mark reference 100, and the deadband is 10
(R127); the signed point keeps its substitute 7 over the field value −56 (R90). -/
theorem test_answerReceived :
    let t := after (.answerReceived .l0 (answerFrame 0 .exchange true 0 [0x6E, 0xC8])) calling
    (t.point 0).value = 110 ∧ (t.point 0).revision = 1 ∧ (t.point 0).markRef = 110 ∧ (t.point 5).value = 7 ∧
      (t.point 5).fieldValue = 0xFFFFFFC8 ∧ (t.point 2).applied = some 9 ∧ (t.point 2).pending = false := by decide +kernel
theorem test_replyTimeout_attemptRetry :
    let t := after (.attemptRetry .l0) (after (.replyTimeout .l0) calling)
    t.link0.call = some ⟨some 0, .exchange, true, [0x90], 0, true, 2, false⟩ ∧ (t.node 0).retryTotal = 1 := by decide +kernel
/-- R94: the last attempt fails, the node counts a failure, and its IN points become STALE. -/
theorem test_failed_attempts :
    let u := after (.attemptRetry .l0) (after (.answerTruncated .l0) calling)
    let t := after (.framingFault .l0) u
    (t.node 0).failures = 1 ∧ (t.point 0).quality = .stale ∧ t.link0.failedCalls = 1 ∧
      (after (.answerBadLength .l0 41) u).link0.failedCalls = 1 := by decide +kernel
/-- R81, R48: the end of a stop loses the ONLINE node with the cause STOPPED. -/
theorem test_broadcastParkCompletion :
    let t := after (.broadcastParkCompletion .l0) (after (.callBuild .l0)
      { demo with link0 := { demo.link0 with state := .stopping, cycleTimer := none } })
    t.link0.state = .off ∧ (t.node 0).lostCause = some .stopped ∧ (t.point 0).state = .orphaned := by decide +kernel

/-! ## Characters on a field line (R59, R61) -/

/-- The address byte 0x81 of an answer of address 1: start bit low, the data bits from the least significant, stop bit high; and a byte
whose top bits differ reads back. -/
theorem test_character :
    character 0x81 = [false, true, false, false, false, false, false, false, true, true] ∧
      byteOfBits [false, true, false, false, false, false, true, true] = 0xC2 := by decide +kernel

/-- At the settings of reset (1 Mbit/s, reply timeout 200 µs) an answer of five characters is received whole, and one whose last stop bit
is low is a framing fault. -/
theorem test_receive :
    let c := LinkRecord.reset.settings
    receive c [] none 0 (frameLevels [0x81, 0x04, 0x00, 0x00, 0x5B]) = some (.complete [0x81, 0x04, 0x00, 0x00, 0x5B]) ∧
      receive c [] none 0 (frameLevels [0x81, 0x04] ++ [false, true, true, false, false, false, false, false, false, false]) =
        some .framingFault ∧
      receive c [] none 0 (frameLevels [0x81, 0x04] ++ List.replicate 19 true) = none ∧
      receive c [] none 0 (frameLevels [0x81, 0x04] ++ List.replicate 20 true) = some .truncated ∧
      receive c [] none 0 (List.replicate 199 true) = none ∧
      receive c [] none 0 (List.replicate 200 true) = some .noAnswer := by decide +kernel

/-- The EXCHANGE call of node 0/1 keeps TXENn high for its characters, and what stands on RXDn meanwhile is not heard. -/
theorem test_lineCommand :
    let r := calling.link .l0
    let sent := r.sending.map fun b => !b
    r.txenHigh (r.sending.length - 1) = true ∧ r.txenHigh r.sending.length = false ∧ LinkRecord.reset.txenHigh 0 = false ∧
      r.lineCommand .l0 sent = none ∧
      r.lineCommand .l0 (sent ++ [true, true] ++ frameLevels [0x81, 0x04, 0x00, 0x29]) = some (.answerBadLength .l0 0x29) ∧
      LinkRecord.reset.lineCommand .l0 (frameLevels [0x81, 0x04, 0x00, 0x29]) = none := by decide +kernel

/-! ## Witnesses: for each obligation with hypotheses, a state and operands that meet them, for each of its clauses -/

/-- H0's request waiting in the small running part. -/
def ask (code : Byte) (params : List Byte) : State := asking demo .h0 code params

/-- The same in the state FAILED. -/
def failedAsk (code : Byte) (params : List Byte) : State := { ask code params with device := .failed }

/-- H1's request: an open session, and no supervisor. -/
def ask1 (code : Byte) (params : List Byte) : State := asking demo .h1 code params

/-- The IDLE frame that H0's window shifts out in the small running part: MARKS, LAPSE and SESSION. -/
def idleOut : OutFrame := ⟨[0x05, 0x00, 0x01, 0x26, crc8 [0x05, 0x00, 0x01, 0x26]], false, false, false⟩

/-- The OK of a RESET_DEVICE as H0's window shifts it out. -/
def resetOut : OutFrame := ⟨[0x05, 0x2A, 0x00, 0x26, crc8 [0x05, 0x2A, 0x00, 0x26]], true, false, false⟩

/-- One node record of the small running part changed. -/
def withNode (n : NodeSlot) (f : NodeRecord → NodeRecord) (s : State) : State := s.setNode n (f (s.node n))

/-- One link record changed. -/
def withLink (l : LinkId) (f : LinkRecord → LinkRecord) (s : State) : State := s.setLink l (f (s.link l))

theorem witness_StepRunsTheFrontCommand : (demo.setPending [.reset]).pending = .reset :: [] := rfl

theorem witness_EmptyQueueIdles : demo.pending = [] := rfl

theorem witness_EveryCommandCompletes :
    Instr.callBuild .l0 ≠ .reset ∧ (∀ a b, Instr.callBuild .l0 ≠ .resetEnd a b) ∧
      (∀ b, Instr.callBuild .l0 ≠ .checkEnd b) ∧ ∀ p e, Instr.callBuild .l0 ≠ .windowClose p e :=
  ⟨nofun, nofun, nofun, nofun⟩

theorem witness_ImpossibleCommandsChangeNothing :
    (grants .lookup 0x10 = true ∧ (ask 0x13 []).nextIs .h0 0x13 [] ∧ grants .lookup 0x13 = false) ∧ demo.nextRequest = none ∧
      demo.device ≠ .resetHeld ∧ demo.device ≠ .checking ∧ ((after (.windowOpen .h0) demo).port .h0).window ≠ none ∧
      (demo.port .h0).window = none ∧ (demo.link .l1).cycleTimer ≠ some 0 ∧ (demo.link .l1).state = .off ∧
      (calling.link .l0).call = some ⟨some 0, .exchange, true, [0x90], 1, true, 2, false⟩ ∧ (demo.link .l0).call = none ∧
      (0x28 : Byte).toNat ≤ 40 ∧ (demo.link .l0).state ≠ .stopping ∧ (demo.leaseAt 2).state ≠ .held ∧
      1 < (demo.leaseAt 0).remaining := by decide +kernel

theorem witness_ResetEndAndCheckEnd :
    State.reset.device = .resetHeld ∧ (after (.resetEnd false true) State.reset).device = .checking := by decide +kernel

theorem witness_WindowOpenFixesTheFrame :
    (State.reset.port .h0).window = none ∧ State.reset.device = .resetHeld ∧ (demo.port .h0).window = none ∧
      demo.device = .ready ∧ (demo.port .h0).slots = [] ∧ (failedAsk 0x02 []).device = .failed ∧
      ((ask 0x02 []).port .h0).slots = ⟨0x2A, 0x02, [], none⟩ :: [] ∧ ((ask 0x02 []).port .h0).window = none ∧
      ((done .resetDevice 0x06 []).port .h0).slots = ⟨0x2A, 0x06, [], some ⟨.ok, []⟩⟩ :: [] := by decide +kernel

/-- Four requests wait at H0. -/
def fourSlots : State := demo.setPort .h0 { demo.port .h0 with slots := List.replicate 4 ⟨0x2A, 0x02, [], none⟩ }

theorem witness_WindowCloseTakesAFrame :
    ((after (.windowOpen .h0) demo).port .h0).window = some (.served idleOut) ∧
      (List.replicate 60 (0 : Byte)).length ≤ 60 ∧ (List.replicate 7 true).length < 8 ∧ idleOut.isResponse = false ∧
      ((after (.windowOpen .h0) (done .closeSession 0x04 [])).port .h0).slots =
        ⟨0x2A, 0x04, [], some ⟨.ok, []⟩⟩ :: [] ∧
      (((after (.windowOpen .h0) fourSlots).port .h0).window = some (.served idleOut) ∧
        ¬((after (.windowOpen .h0) fourSlots).port .h0).slots.length < 4) ∧
      ((after (.windowOpen .h1) (after .resetDevice (ask1 0x06 []))).port .h1).slots =
        ⟨0x2A, 0x06, [], some ⟨.notPermitted, []⟩⟩ :: [] := by decide +kernel

theorem witness_WindowCloseWithoutAFrame :
    ((after (.windowOpen .h0) State.reset).port .h0).window = some .unserved ∧
      ((after (.windowOpen .h0) demo).port .h0).window = some (.served idleOut) ∧ ([0x00] : List Byte).head? = some 0 ∧
      ([] : List Bool).length < 8 ∧ (0x03 : Byte).toNat < 4 ∧ 64 < (0x41 : Byte).toNat ∧ ([0x04, 0x01, 0x01] : List Byte).length < (0x04 : Byte).toNat ∧
      ([0x04, 0x01, 0x01, 0xB8] : List Byte)[4 - 1]? ≠ some (crc8 [0x04, 0x01, 0x01]) := by decide +kernel

theorem witness_ResetDeviceActsWhenAcknowledged :
    (ask 0x06 []).supervisorAsks .h0 0x06 [] ∧
      ((after (.windowOpen .h0) (done .resetDevice 0x06 [])).port .h0).window = some (.served resetOut) ∧
      ((after (.windowOpen .h0) (done .resetDevice 0x06 [])).port .h0).slots =
        ⟨0x2A, 0x06, [], some ⟨.ok, []⟩⟩ :: [] ∧
      ((after (.windowOpen .h1) (after (.windowOpen .h0) (done .resetDevice 0x06 []))).port .h1).window ≠ none ∧
      [true, false].length < 8 ∧ resetOut.frame.length ≤ ([0x04, 0x01, 0x01, 0xB9, 0x00] : List Byte).length := by decide +kernel

theorem witness_GrantAnswersOneSlot :
    (ask 0x02 []).nextRequest = some (.h0, ⟨0x2A, 0x02, [], none⟩) ∧ grants .deviceInfo 0x02 = true := by decide +kernel

theorem witness_CommonChecksInOrder :
    (failedAsk 0x10 []).nextIs .h0 0x10 [] ∧ (failedAsk 0x10 []).device = .failed ∧ grants .lookup 0x10 = true ∧
      (ask 0x10 []).nextIs .h0 0x10 [] ∧ layoutMatches 0x10 [] = false ∧
      (asking demo .h2 0x13 []).nextIs .h2 0x13 [] ∧ layoutMatches 0x13 [] = true ∧ (demo.port .h2).sessionOpen = false ∧
      (ask1 0x06 []).nextIs .h1 0x06 [] ∧ supervisorRequests.contains 0x06 = true ∧ demo.isSupervisor .h1 = false ∧
      (ask 0x01 []).nextIs .h0 0x01 [] ∧ (ask 0x7F []).nextIs .h0 0x7F [] ∧ requestCodes.contains 0x7F = false := by
  decide +kernel

theorem witness_HandleCheckOutcomes :
    (511 : DirSlot).val = 65535 % 512 ∧ (demo.point 511).state = .free ∧ (1 : DirSlot).val = 513 % 512 ∧
      (demo.point 1).state = .live ∧ (demo.point 1).generation = 513 / 512 ∧ (demo.point 1).generation ≠ 1025 / 512 ∧
      (demo.point 3).state = .retired ∧ (demo.point 3).generation = 515 / 512 := by decide +kernel

theorem witness_LookupAnswers :
    ((ask 0x10 [0]).asks .h0 0x10 (byte 0 :: []) ∧ ¬lawfulFullName []) ∧
      ((ask 0x10 [3, 0x41, 0x2E, 0x41]).asks .h0 0x10 (byte 3 :: [0x41, 0x2E, 0x41]) ∧ lawfulFullName [0x41, 0x2E, 0x41] ∧
        [0x41, 0x2E, 0x41] ∉ demo.nameMap.map Prod.fst) ∧
      (tb16Name ++ [0x2E, 0x42], (1 : DirSlot)) ∈ demo.nameMap ∧ lawfulFullName (tb16Name ++ [0x2E, 0x42]) := by
  refine ⟨⟨by decide +kernel, ?_⟩, ⟨by decide +kernel, ⟨[0x41], [0x41], ?_⟩, by decide +kernel⟩, by decide +kernel,
    ⟨tb16Name, [0x42], ?_⟩⟩
  · rintro ⟨a, b, h, -⟩
    simp at h
  · decide +kernel
  · decide +kernel

theorem witness_ListPointsAnswers :
    (ask 0x11 [0, 0, 0x20, 0xFF]).asks .h0 0x11 [0, 0, 0x20, 0xFF] ∧ ¬(0x20 : Byte).toNat ≤ 31 ∧
      (ask 0x11 [0, 0, 31, 1]).asks .h0 0x11 [0, 0, 31, 1] ∧ (31 : Byte).toNat ≤ 31 := by decide +kernel

theorem witness_SummariesReportTheTables :
    (ask 0x13 []).asks .h0 0x13 [] ∧ (ask 0x21 []).asks .h0 0x21 [] ∧ (ask 0x02 []).device = .ready ∧
      (failedAsk 0x02 []).nextIs .h0 0x02 [] ∧ (failedAsk 0x02 []).device = .failed := by decide +kernel

theorem witness_RecordsAreReported :
    (ask 0x12 [0xFF, 0xFF]).asks .h0 0x12 [0xFF, 0xFF] ∧ demo.checkHandle false (u16 0xFF 0xFF) = .refused .staleHandle ∧
      (ask 0x12 [1, 2]).asks .h0 0x12 [1, 2] ∧ demo.checkHandle false (u16 1 2) = .accepted 1 ∧
      (ask 0x20 [32]).asks .h0 0x20 [32] ∧ (ask 0x20 [31]).asks .h0 0x20 [31] ∧ (31 : NodeSlot).val = (31 : Byte).toNat ∧
      (ask 0x33 [2]).asks .h0 0x33 [2] ∧ (ask 0x33 [1]).asks .h0 0x33 [1] ∧ LinkId.l1.toNat = (1 : Byte).toNat := by
  decide +kernel

theorem witness_NameNodeRenames :
    (ask 0x22 [32, 0]).supervisorAsks .h0 0x22 (32 :: byte 0 :: []) ∧ (demo.node 31).state = .vacant ∧
      (ask 0x22 [31, 0]).supervisorAsks .h0 0x22 (31 :: byte 0 :: []) ∧ (demo.node 0).state ≠ .vacant ∧
      (ask 0x22 [0, 1, 0x5A]).supervisorAsks .h0 0x22 (0 :: byte 1 :: [0x5A]) ∧ (∀ c ∈ ([0x5A] : Text), legalChar c = true) ∧
      demo.nameTaken 0 [0x5A] = false ∧ (demo.node 0).stationName ≠ some [0x5A] ∧
      (ask 0x22 (0 :: byte 8 :: tb16Name)).supervisorAsks .h0 0x22 (0 :: byte 8 :: tb16Name) ∧
      (demo.node 0).stationName = some tb16Name ∧
      ((withNode 16 (fun r => { r with state := .refused, stationName := some [0x5A] }) demo).node 16).stationName =
        some [0x5A] := by decide +kernel

theorem witness_NodeRequestsByState :
    (ask 0x23 [32]).supervisorAsks .h0 0x23 [32] ∧ (ask 0x24 [32]).supervisorAsks .h0 0x24 [32] ∧
      (ask 0x25 [31]).supervisorAsks .h0 0x25 [31] ∧ (ask 0x26 [0]).supervisorAsks .h0 0x26 [0] ∧ (demo.node 0).state = .online ∧
      (demo.node 31).state = .vacant ∧
      ∀ st ∈ [NodeState.describing, .resync, .lost, .refused, .parked],
        ((withNode 0 (fun r => { r with state := st }) (ask 0x24 [0])).node 0).state = st ∧
          (withNode 0 (fun r => { r with state := st }) (ask 0x24 [0])).supervisorAsks .h0 0x24 [0] := by decide +kernel

theorem witness_RetirementOfANode :
    ((demo.point 1).state = .live ∧ (demo.point 1).nodeSlot = 0 ∧ (demo.point 1).watch = PortSet.empty) ∧
      ((demo.point 0).state = .live ∧ (demo.point 0).watch ≠ PortSet.empty) ∧ (demo.point 3).state = .retired := by
  decide +kernel

theorem witness_LossOfNodes :
    (demo.point 4).state ≠ .live ∧ (demo.point 0).state = .live ∧ (demo.point 5).substPort ≠ none ∧
      (demo.point 1).direction = .out := by decide +kernel

theorem witness_StartAndStopLink :
    (ask 0x30 [2]).supervisorAsks .h0 0x30 [2] ∧ (ask 0x31 [2]).supervisorAsks .h0 0x31 [2] ∧
      (ask 0x30 [1]).supervisorAsks .h0 0x30 [1] ∧ (demo.link .l1).state = .off ∧ (demo.link .l0).state = .running ∧
      (ask 0x31 [0]).supervisorAsks .h0 0x31 [0] ∧
      ((withLink .l0 (fun r => { r with state := .stopping }) (ask 0x31 [0])).link .l0).state = .stopping := by decide +kernel

theorem witness_SetLinkChecksAndApplies :
    (∀ b ∈ ([0, 1, 2] : List Byte),
      (ask 0x32 [b, 2, 33, 20, 1, 3, 2, 0xFF, 0xFF]).supervisorAsks .h0 0x32 [b, 2, 33, 20, 1, 3, 2, 0xFF, 0xFF]) ∧
      (⟨.m1, 33, 20, 1, 3, 2, 0xFFFF⟩ : Settings) = ⟨.m1, (33 : Byte).toNat, (20 : Byte).toNat, (1 : Byte).toNat,
        (3 : Byte).toNat, (2 : Byte).toNat, BitVec.ofNat 16 (u16 0xFF 0xFF)⟩ ∧ BitRate.m1.code = 2 ∧
      ¬(4 : Byte).toNat ≤ 3 ∧ (BitRate.m2 ≠ (demo.link .l0).settings.bitRate ∧ (demo.link .l0).state ≠ .off) ∧
      ((demo.node 0).identity.holdTime < 3 * 34 ∧ ¬(demo.node 0).identity.holdTime < 3 * 33) ∧ (demo.link .l1).state = .off := by
  decide +kernel

theorem witness_ReadReports :
    (ask 0x40 (countedHandles [])).asks .h0 0x40 (countedHandles []) ∧
      (ask 0x40 (countedHandles [1, 513, 514, 517, 0])).asks .h0 0x40 (countedHandles [1, 513, 514, 517, 0]) ∧
      (ask 0x40 (countedHandles [65535, 513, 514, 517])).asks .h0 0x40 (countedHandles [65535, 513, 514, 517]) := by
  decide +kernel

theorem witness_WriteChecksAndWrites :
    (ask 0x41 (0 :: 1 :: countedValues [])).asks .h0 0x41 (0 :: 1 :: countedValues []) ∧
      (ask 0x41 (0 :: 1 :: countedValues [(513, 1)])).asks .h0 0x41 (0 :: 1 :: countedValues [(513, 1)]) ∧
      (demo.namesLease 0 1 0 ∧ (demo.leaseAt 0).holder = some .h0 ∧ (demo.leaseAt 0).state ≠ .lapsed) ∧
      (demo.namesLease 2 1 2 ∧ (demo.leaseAt 2).holder = some .h0 ∧ (demo.leaseAt 2).state = .lapsed) ∧
      (∀ k, ¬demo.namesLease 64 1 k) ∧ demo.checkHandle false 65535 = .refused .staleHandle ∧
      List.Forall₂ (fun h i => demo.checkHandle false h = .accepted i) [513] [1] ∧ (demo.point 1).direction = .out ∧
      (demo.point 1).lease = some 0 ∧ (demo.node (demo.point 1).nodeSlot).state = .online ∧ (demo.point 1).inRange 1 = true ∧
      (demo.point 1).inRange 2 = false ∧ (demo.point 2).lease ≠ some 0 ∧ (demo.point 0).direction ≠ .out := by
  refine ⟨by decide +kernel, by decide +kernel, by decide +kernel, by decide +kernel, by decide +kernel, by decide +kernel,
    .cons (by decide +kernel) .nil, by decide +kernel⟩

theorem witness_SetSafeChecksAndSets :
    (ask 0x42 [0, 1, 1, 2, 1, 0, 0, 0]).asks .h0 0x42 [0, 1, 1, 2, 1, 0, 0, 0] ∧ demo.namesLease 0 1 0 ∧
      (demo.leaseAt 0).holder = some .h0 ∧ (demo.leaseAt 0).state ≠ .lapsed ∧ demo.checkHandle false (u16 1 2) = .accepted 1 ∧
      (demo.point 1).direction = .out ∧ (demo.point 1).lease = some 0 ∧ (demo.point 1).inRange (w32 1 0 0 0) = true ∧
      (demo.point 1).inRange (w32 2 0 0 0) = false ∧ demo.checkHandle false (u16 0 2) = .accepted 0 ∧
      (demo.point 0).direction = .inp ∧ demo.checkHandle false (u16 2 2) = .accepted 2 ∧ (demo.point 2).lease ≠ some 0 ∧
      demo.namesLease 2 1 2 ∧ (demo.leaseAt 2).state = .lapsed := by decide +kernel

theorem witness_SubstituteAndUnsubstitute :
    (ask 0x43 [0, 2, 150, 0, 0, 0]).supervisorAsks .h0 0x43 [0, 2, 150, 0, 0, 0] ∧
      demo.checkHandle false (u16 0 2) = .accepted 0 ∧ (demo.point 0).direction = .inp ∧ (demo.point 0).kind = .unsigned ∧
      (w32 150 0 0 0).toNat ≤ (demo.point 0).rawHigh.toNat ∧ ¬(w32 151 0 0 0).toNat ≤ (demo.point 0).rawHigh.toNat ∧
      demo.checkHandle false (u16 1 2) = .accepted 1 ∧ (demo.point 1).direction = .out ∧
      (ask 0x44 [5, 2]).supervisorAsks .h0 0x44 [5, 2] ∧ demo.checkHandle false (u16 5 2) = .accepted 5 ∧
      (demo.point 5).substPort ≠ none ∧ (demo.point 0).substPort = none ∧
      demo.checkHandle false (u16 3 2) = .refused .retired := by decide +kernel

theorem witness_OpenLeaseTakesTheLowestFree :
    (ask 0x50 [19, 0]).asks .h0 0x50 [19, 0] ∧ u16 19 0 < 20 ∧ (ask 0x50 [0x61, 0xEA]).asks .h0 0x50 [0x61, 0xEA] ∧
      60000 < u16 0x61 0xEA ∧ (ask 0x50 [0x60, 0xEA]).asks .h0 0x50 [0x60, 0xEA] ∧ u16 0x60 0xEA ≤ 60000 ∧
      (demo.leaseAt 3).state = .free ∧ (∀ j : LeaseIndex, j < 3 → (demo.leaseAt j).state ≠ .free) ∧
      ∀ k, ((demo.mapLeases fun _ r => { r with state := .held }).leaseAt k).state ≠ .free := by decide +kernel

theorem witness_ClaimChecksAndJoins :
    (ask 0x51 (0 :: 1 :: countedHandles [])).asks .h0 0x51 (0 :: 1 :: countedHandles []) ∧
      (ask 0x51 (0 :: 1 :: countedHandles [514])).asks .h0 0x51 (0 :: 1 :: countedHandles [514]) ∧
      (demo.namesLease 0 1 0 ∧ (demo.leaseAt 0).holder = some .h0 ∧ (demo.leaseAt 0).state ≠ .lapsed) ∧
      (demo.namesLease 2 1 2 ∧ (demo.leaseAt 2).state = .lapsed) ∧
      List.Forall₂ (fun h i => demo.checkHandle false h = .accepted i) [513, 514] [1, 2] ∧
      ((demo.point 2).lease = some 1 ∧ (demo.leaseAt 1).holder = some .h1) ∧ (demo.point 1).lease = some 0 ∧
      demo.checkHandle false 515 = .refused .retired ∧ (demo.point 0).direction ≠ .out ∧
      ((demo.setLease 0 { demo.leaseAt 0 with members := (List.range 33).map fun k => Fin.ofNat 512 k }).leaseAt 0).members.length =
        33 := by
  refine ⟨by decide +kernel, by decide +kernel, by decide +kernel, by decide +kernel,
    .cons (by decide +kernel) (.cons (by decide +kernel) .nil), by decide +kernel⟩

theorem witness_ReleaseLetsMembersGo :
    (ask 0x52 (0 :: 1 :: countedHandles [])).asks .h0 0x52 (0 :: 1 :: countedHandles []) ∧
      (ask 0x52 (0 :: 1 :: countedHandles [513, 513])).asks .h0 0x52 (0 :: 1 :: countedHandles [513, 513]) ∧
      demo.namesLease 0 1 0 ∧ (demo.leaseAt 0).holder = some .h0 ∧ ∀ k, ¬demo.namesLease 0 2 k := by decide +kernel

theorem witness_RenewRestartsTheTerm :
    (ask 0x53 [0, 1]).asks .h0 0x53 [0, 1] ∧ demo.namesLease 0 1 0 ∧ (demo.leaseAt 0).holder = some .h0 ∧
      (demo.leaseAt 0).state = .held ∧ (ask 0x53 [2, 1]).asks .h0 0x53 [2, 1] ∧ demo.namesLease 2 1 2 ∧
      (demo.leaseAt 2).state = .lapsed ∧ (∀ k, ¬(demo.namesLease 1 1 k ∧ (demo.leaseAt k).holder = some .h0)) := by
  decide +kernel

theorem witness_CloseAndRevokeReleaseMembers :
    (ask 0x54 [0, 1]).asks .h0 0x54 [0, 1] ∧ demo.namesLease 0 1 0 ∧ (demo.leaseAt 0).holder = some .h0 ∧
      (ask 0x55 [1, 1]).supervisorAsks .h0 0x55 [1, 1] ∧ demo.namesLease 1 1 1 ∧ (demo.leaseAt 1).state = .held ∧
      demo.namesLease 2 1 2 ∧ (demo.leaseAt 2).state = .lapsed ∧ ∀ k, ¬demo.namesLease 3 0 k := by decide +kernel

theorem witness_LeaseInfoReports :
    (ask 0x56 [1, 1, 32]).asks .h0 0x56 [1, 1, 32] ∧ (ask 0x56 [1, 1, 31]).asks .h0 0x56 [1, 1, 31] ∧ demo.namesLease 1 1 1 ∧
      (demo.leaseAt 1).holder = some .h1 ∧ demo.isSupervisor .h0 = true ∧ (ask1 0x56 [0, 1, 0]).asks .h1 0x56 [0, 1, 0] ∧
      (demo.leaseAt 0).holder ≠ some .h1 ∧ demo.isSupervisor .h1 = false ∧ ∀ k, ¬demo.namesLease 3 0 k := by decide +kernel

/-- A change of 9 on the UNSIGNED point is inside its deadband of 10 and not reportable; a change of 10 is. -/
theorem witness_EventReportsOnce :
    reportable (demo.point 0) { demo.point 0 with value := 109 } = false ∧
      reportable (demo.point 0) { demo.point 0 with value := 110 } = true ∧
      (demo.port .h0).markedCount = demo.marksOf .h0 := by decide +kernel

theorem witness_WatchAndUnwatchInTurn :
    (ask 0x60 (countedHandles [])).asks .h0 0x60 (countedHandles []) ∧
      (ask 0x60 (countedHandles [513, 515])).asks .h0 0x60 (countedHandles [513, 515]) ∧
      (ask 0x61 (countedHandles (List.replicate 9 515))).asks .h0 0x61 (countedHandles (List.replicate 9 515)) ∧
      (ask 0x61 (countedHandles (List.replicate 8 515))).asks .h0 0x61 (countedHandles (List.replicate 8 515)) := by
  decide +kernel

theorem witness_SetDeadbandRestartsTheReference :
    (ask 0x62 [0, 2, 5, 0]).asks .h0 0x62 [0, 2, 5, 0] ∧ demo.checkHandle false (u16 0 2) = .accepted 0 ∧
      (demo.point 0).direction = .inp ∧ (demo.point 0).kind ≠ .flag ∧ (demo.point 0).kind ≠ .bits ∧
      demo.checkHandle false (u16 1 2) = .accepted 1 ∧ (demo.point 1).direction = .out ∧
      demo.checkHandle false (u16 4 2) = .refused .staleHandle ∧
      ({ inPoint with kind := .bits }).direction = .inp := by decide +kernel

theorem witness_NextChangesScansFromTheCursor : (ask 0x63 []).asks .h0 0x63 [] := by decide +kernel

theorem witness_AckChangesInTurn :
    (ask 0x64 (countedRevisions [])).asks .h0 0x64 (countedRevisions []) ∧
      (ask 0x64 (countedRevisions [(515, 4), (515, 4)])).asks .h0 0x64 (countedRevisions [(515, 4), (515, 4)]) := by
  decide +kernel

theorem witness_SessionsOpenAndClose :
    (ask 0x03 []).device = .ready ∧ (ask 0x03 []).nextIs .h0 0x03 [] ∧ ((ask 0x03 []).port .h0).sessionOpen = true ∧
      (asking demo .h2 0x03 []).nextIs .h2 0x03 [] ∧ (demo.port .h2).sessionOpen = false ∧ (ask 0x04 []).asks .h0 0x04 [] := by
  decide +kernel

theorem witness_SetAttentionSetsTheMask :
    (ask 0x05 [1, 2]).asks .h0 0x05 [1, 2] ∧ 1 < (2 : Byte).toNat ∧ (ask 0x05 [1, 0]).asks .h0 0x05 [1, 0] ∧
      (1 : Byte).toNat ≤ 1 := by decide +kernel

theorem witness_TickCountsAndExpires : (demo.leaseAt 1).state = .held ∧ (demo.leaseAt 1).remaining ≤ 1 := by decide +kernel

theorem witness_CycleTimerStartsOrIsLate :
    (demo.link .l0).state = .running ∧ (demo.link .l0).cycleTimer = some 0 ∧ (demo.link .l0).complete = false ∧
      (calling.link .l0).call ≠ none ∧ (demo.node 0).state = .online ∧
      ((withLink .l0 (fun r => { r with exchangeList := [0] }) demo).link .l0).exchangeList = [0] ∧
      ((withLink .l0 (fun r => { r with complete := true }) demo).link .l0).complete = true ∧
      (demo.link .l0).call = none ∧ (demo.link .l0).exchangeList = [] := by decide +kernel

theorem witness_CycleGoesOnOrEnds :
    (demo.link .l0).state = .running ∧ demo.hasNextCall .l0 = true ∧ (demo.link .l1).state ≠ .running ∧
      (withLink .l0 (fun r => { r with serviceStarted := 2 }) demo).hasNextCall .l0 = false ∧
      (withLink .l0 (fun r => { r with late := true }) demo).hasNextCall .l0 = false := by decide +kernel

theorem witness_ImagesCarryTheBits : 1 ≤ (demo.point 0).width ∧ (demo.point 0).width ≤ 32 ∧ 0 < 8 * (demo.node 0).identity.outputLength := by
  decide +kernel

theorem witness_CallBuildChoosesTheCall :
    (demo.link .l0).call = none ∧ (demo.link .l0).state = .running ∧ (demo.link .l0).complete = false ∧
      ((withLink .l0 (fun r => { r with exchangeList := [3, 0] }) demo).link .l0).exchangeList = [3] ++ 0 :: [] ∧
      (demo.nodeAt .l0 3).state ≠ .online ∧ (demo.nodeAt .l0 0).state = .online ∧ (demo.node 0).held = false ∧
      ((withNode 0 (fun r => { r with held := true }) demo).node 0).held = true ∧ (demo.link .l0).late = false ∧
      (demo.link .l0).serviceStarted < (demo.link .l0).settings.serviceCalls ∧ demo.serviceChoice .l0 = some (.vacant, 1) ∧
      (withNode 1 (fun r => { r with parkOwed := true }) demo).serviceChoice .l0 = some (.owedPark, 1) ∧
      (withNode 1 (fun r => { r with state := .resync }) demo).serviceChoice .l0 = some (.resync, 1) ∧
      (withNode 1 (fun r => { r with state := .describing }) demo).serviceChoice .l0 = some (.describe, 1) ∧
      (withNode 15 (fun r => { r with state := .lost }) demo).serviceChoice .l0 = some (.lost, 15) ∧
      ((withLink .l0 (fun r => { r with state := .stopping }) demo).link .l0).state = .stopping ∧
      (demo.link .l0).exchangeList = [] ∧ ((withLink .l0 (fun r => { r with late := true }) demo).link .l0).late = true ∧
      ((withLink .l0 (fun r => { r with serviceStarted := 2 }) demo).link .l0).settings.serviceCalls ≤ 2 ∧
      (((withLink .l0 (fun r => { r with settings := { r.settings with scanSet := 0 } }) demo).link .l0).settings.scanSet = 0 ∧
        ∀ a : NodeAddr, a ≠ 0 → (demo.nodeAt .l0 a).state = .vacant ∧ (demo.nodeAt .l0 a).parkOwed = false) := by decide +kernel

theorem witness_AttemptsFailAndAreRetried :
    calling.awaits .l0 ⟨some 0, .exchange, true, [0x90], 1, true, 2, false⟩ 0 ∧ (calling.node 0).state = .online ∧
      ((after (.replyTimeout .l0) calling).link .l0).call = some ⟨some 0, .exchange, true, [0x90], 1, false, 2, false⟩ ∧
      (after (.attemptRetry .l0) (after (.replyTimeout .l0) calling)).awaits .l0
        ⟨some 0, .exchange, true, [0x90], 0, true, 2, false⟩ 0 ∧ 40 < (41 : Byte).toNat ∧
      (withLink .l0 (fun r => { r with call := some ⟨some 1, .probe, true, [], 0, true, 0, true⟩ }) demo).awaits .l0
        ⟨some 1, .probe, true, [], 0, true, 0, true⟩ 1 ∧ (demo.nodeAt .l0 1).state = .vacant ∧ (demo.node 1).parkOwed = false := by
  decide +kernel

theorem witness_failsAttempt :
    failsAttempt .l0 (.replyTimeout .l0) ∧ failsAttempt .l0 (.answerTruncated .l0) ∧ failsAttempt .l0 (.framingFault .l0) ∧
      failsAttempt .l0 (.answerBadLength .l0 41) :=
  ⟨.inl rfl, .inr (.inl rfl), .inr (.inr (.inl rfl)), .inr (.inr (.inr ⟨41, by decide, rfl⟩))⟩

/-- A call of a kind to address 2 waits on its last attempt, and the node's record is changed. -/
def lastAttempt (kind : CallKind) (payload : List Byte) (f : NodeRecord → NodeRecord) : State :=
  withNode 1 f (withLink .l0 (fun r => { r with call := some ⟨some 1, kind, true, payload, 0, true, 0, false⟩ }) demo)

theorem witness_AttemptsFailAndAreRetried_kinds :
    (∀ st ∈ [NodeState.resync, .lost],
      let s := lastAttempt .probe [] fun r => { r with state := st, failures := 2 }
      s.awaits .l0 ⟨some 1, .probe, true, [], 0, true, 0, false⟩ 1 ∧ (s.node 1).state = st ∧
        (s.link .l0).settings.lossLimit ≤ (s.node 1).failures + 1) ∧
      (let s := lastAttempt .describe [0] fun r => { r with state := .describing }
       s.awaits .l0 ⟨some 1, .describe, true, [0], 0, true, 0, false⟩ 1 ∧ (s.node 1).state = .describing ∧
          [0] = [byte (s.node 1).cursor] ∧ ¬(s.link .l0).settings.lossLimit ≤ (s.node 1).failures + 1) ∧
      (∀ st ∈ [NodeState.vacant, .parked],
        let s := lastAttempt .park [] fun r => { r with state := st, parkOwed := true }
        s.awaits .l0 ⟨some 1, .park, true, [], 0, true, 0, false⟩ 1 ∧ (s.node 1).state = st ∧ (s.node 1).parkOwed = true) ∧
      (∀ kind ∈ [CallKind.exchange, .clearHold, .describe, .probe],
        let s := lastAttempt kind [] fun r => { r with state := .parked }
        s.awaits .l0 ⟨some 1, kind, true, [], 0, true, 0, false⟩ 1 ∧ (s.node 1).state = .parked) ∧
      Call.answerFits ⟨some 1, .park, true, [], 0, true, 0, false⟩ ([] : List Byte).length := by
  refine ⟨by decide +kernel, by decide +kernel, by decide +kernel, by decide +kernel, rfl⟩

theorem witness_AnswersAreCheckedWhole :
    calling.awaits .l0 ⟨some 0, .exchange, true, [0x90], 1, true, 2, false⟩ 0 ∧
      (Instr.answerReceived .l0 (answerFrame 0 .exchange true 0 [0x6E, 0xC8])).wellFormed = true ∧
      (Instr.answerReceived .l0 [0x82, 0x83, 0, 0, 0]).wellFormed = true ∧
      acceptAnswer ⟨some 0, .exchange, true, [0x90], 1, true, 2, false⟩ [0x82, 0x83, 0, 0, 0] = none ∧
      Call.answerFits ⟨some 0, .exchange, true, [0x90], 1, true, 2, false⟩ ([0x6E, 0xC8] : List Byte).length := by
  refine ⟨by decide +kernel, by decide +kernel, by decide +kernel, by decide +kernel, rfl⟩

/-- The reply timeout of the running part is 200 bit times; three characters, four with the length byte 40, and any three before a length
byte of 41 are unfinished. -/
theorem witness_AnswersAreCheckedWhole_line :
    (∃ sent : List Bool, sent.length = 10 * (⟨some 0, .exchange, true, [0x90], 1, true, 2, false⟩ : Call).frame.length) ∧
      199 * (calling.link .l0).settings.bitRate.characterMicros < 100 * (calling.link .l0).settings.replyTimeout ∧
      100 * (calling.link .l0).settings.replyTimeout ≤ 200 * (calling.link .l0).settings.bitRate.characterMicros ∧
      (∀ n : Byte, ([0x81, 0x03, 0x00] : List Byte)[3]? = some n → n.toNat ≤ 40 ∧ 3 < 5 + n.toNat) ∧
      (∀ n : Byte, ([0x81, 0x03, 0x00, 0x28] : List Byte)[3]? = some n → n.toNat ≤ 40 ∧ 4 < 5 + n.toNat) ∧
      40 < (41 : Byte).toNat := by
  refine ⟨⟨List.replicate _ true, List.length_replicate⟩, by decide +kernel, by decide +kernel, nofun, ?_, by decide⟩
  rintro n h
  cases h
  decide

theorem witness_ExchangeAnswersAreTaken :
    calling.awaits .l0 ⟨some 0, .exchange, true, [0x90], 1, true, 2, false⟩ 0 ∧ (calling.nodeAt .l0 0).state = .online ∧
      ([0x6E, 0xC8] : List Byte).length = 2 ∧ (1 : Byte).getLsbD 0 = true ∧ (calling.node 0).freshExpected = false ∧
      (after (.callBuild .l0) (withNode 0 (fun r => { r with held := true })
          (withLink .l0 (fun r => { r with exchangeList := [0] }) demo))).awaits .l0
        ⟨some 0, .clearHold, true, [], 1, true, 2, false⟩ 0 := by decide +kernel

/-- A PROBE of address 2, whose record is VACANT, or RESYNC or LOST with the identity of the answer. -/
def probing (f : NodeRecord → NodeRecord) : State :=
  withNode 1 f (withLink .l0 (fun r => { r with call := some ⟨some 1, .probe, true, [], 1, true, 0, false⟩ }) demo)

theorem witness_ProbeAnswersAreTaken :
    (probing id).awaits .l0 ⟨some 1, .probe, true, [], 1, true, 0, false⟩ 1 ∧ ((probing id).node 1).state = .vacant ∧
      ((probing id).node 1).parkOwed = false ∧ tb16.length ≤ 4 ∧ (∀ ch ∈ tb16, legalChar ch = true) ∧
      3 * ((probing id).link .l0).settings.period ≤ 10 * (3 : Byte).toNat ∧
      ¬3 * ((probing id).link .l0).settings.period ≤ 10 * (2 : Byte).toNat ∧
      demo.nameTaken 1 (defaultName tb16 .l0 1) = false ∧
      ((probing fun r => { r with state := .resync, identity := tb16Id }).node 1).state = .resync ∧
      ((probing fun r => { r with state := .lost, identity := tb16Id }).node 1).identity =
        ⟨tb16, 1207, 0x5E21A40C, (3 : Byte).toNat, (2 : Byte).toNat, (1 : Byte).toNat, 10 * (10 : Byte).toNat⟩ := by
  decide +kernel

/-- The names `names` are in use at addresses 3, 4, … of link 0. -/
def namesInUse (names : List Text) (s : State) : State :=
  { s with
    nodes := tabMap (fun n r =>
      if 2 ≤ n.val ∧ n.val < 2 + names.length then { r with state := .refused, stationName := names[n.val - 2]? } else r)
      s.nodes }

/-- The default name TB16-002 and its forms TB16-00~, TB16-0~~, …, ~~~~~~~~ (R33). -/
def tb16Forms : List Text := (List.range 9).map fun k => (defaultName tb16 .l0 1).take (8 - k) ++ List.replicate k 0x7E

/-- A changed unit number from RESYNC and from LOST, with the type text the node had and with another; an element count of 0; a type text
with a space first; the first form in use, and all of them; and a LOST node with a hold time of 20 ms under a period of 10 ms. -/
theorem witness_ProbeAnswersAreTaken_newcomers :
    (∀ st ∈ [NodeState.resync, .lost],
      let s := probing fun r => { r with state := st, identity := tb16Id }
      s.awaits .l0 ⟨some 1, .probe, true, [], 1, true, 0, false⟩ 1 ∧ (s.node 1).state = st ∧ (s.node 1).identity.typeText = tb16 ∧
        (s.node 1).identity ≠ ⟨tb16, 1208, 0, (0 : Byte).toNat, 0, 0, 10 * (3 : Byte).toNat⟩ ∧
        (s.node 1).identity.typeText ≠ [0x5A]) ∧
      (∀ k, 1 ≤ k → k ≤ 4 → ¬∀ ch ∈ ([0x20, 0x54, 0x42, 0x31] : List Byte).take k, legalChar ch = true) ∧
      ¬1 ≤ (0 : Byte).toNat ∧
      ((namesInUse (tb16Forms.take 1) (probing id)).node 2).stationName = some (defaultName tb16 .l0 1) ∧
      (namesInUse (tb16Forms.take 1) (probing id)).freshName 1 (defaultName tb16 .l0 1) =
        some [0x54, 0x42, 0x31, 0x36, 0x2D, 0x30, 0x30, 0x7E] ∧
      (namesInUse tb16Forms (probing id)).freshName 1 (defaultName tb16 .l0 1) = none ∧
      (let s := probing fun r => { r with state := .lost, identity := { tb16Id with holdTime := 20 } }
       s.awaits .l0 ⟨some 1, .probe, true, [], 1, true, 0, false⟩ 1 ∧ (s.node 1).state = .lost ∧
          ¬3 * (s.link .l0).settings.period ≤ 10 * (2 : Byte).toNat) := by
  refine ⟨by decide +kernel, ?_, by decide +kernel, by decide +kernel, by decide +kernel, by decide +kernel, by decide +kernel⟩
  intro k h1 _ h
  obtain ⟨k, rfl⟩ := Nat.exists_eq_add_of_le' h1
  exact absurd (h 0x20 (by simp)) (by decide)

/-- Node 1 DESCRIBING under a DESCRIBE call of element 0. -/
def describing : State :=
  withNode 1 (fun r => { r with state := .describing, identity := tb16Id, freshExpected := true })
    (withLink .l0 (fun r => { r with call := some ⟨some 1, .describe, true, [0], 1, true, 2, false⟩ }) demo)

theorem witness_DescribeAnswersReserve :
    let d : Descriptor := ⟨.unsigned, .inp, 8, 0, 150, 0, [0x41], []⟩
    describing.awaits .l0 ⟨some 1, .describe, true, [0], 1, true, 2, false⟩ 1 ∧
      (describing.nodeAt .l0 1).state = .describing ∧ [0] = [byte (describing.nodeAt .l0 1).cursor] ∧
      (describing.node 1).freshExpected = true ∧ d.legal (describing.reservedNames 1) = true ∧
      (describing.point 4).state = .free ∧ (∀ j : DirSlot, j < 4 → (describing.point j).state ≠ .free) ∧
      0 + d.width ≤ 8 * (describing.node 1).identity.inputLength ∧
      ((withNode 1 (fun r => { r with freshExpected := false }) describing).node 1).freshExpected = false ∧
      ([d.kind.code, d.direction.code, byte d.width, 0] ++ le32 d.rawLow ++ le32 d.rawHigh ++ le32 d.safe ++
        byte d.name.length :: d.name ++ byte d.unit.length :: d.unit).length = 19 := by decide +kernel

/-- A descriptor as its answer carries it (ch. 8.6). -/
def descriptorBytes (d : Descriptor) : List Byte :=
  [d.kind.code, d.direction.code, byte d.width, 0] ++ le32 d.rawLow ++ le32 d.rawHigh ++ le32 d.safe ++
    byte d.name.length :: d.name ++ byte d.unit.length :: d.unit

/-- A PAD of 4 bits, an element that fills the input image and one that is a bit too wide for what is left of it, a payload no element
carries, a FLAG of two bits, and a table without a FREE record. -/
theorem witness_DescribeAnswersReserve_others :
    let pad : Descriptor := ⟨.pad, .inp, 4, 0, 0, 0, [], []⟩
    let wide : Descriptor := ⟨.bits, .inp, 16, 0, 0, 0, [0x41], []⟩
    let flag : Descriptor := ⟨.flag, .inp, 2, 0, 0, 0, [0x41], []⟩
    pad.legal [] = true ∧ (descriptorBytes pad).length = 18 ∧ 0 + wide.width ≤ 8 * (describing.node 1).identity.inputLength ∧
      ¬1 + wide.width ≤ 8 * (describing.node 1).identity.inputLength ∧ wide.legal [] = true ∧
      parseDescriptor (List.replicate 18 0xFF) = none ∧
      parseDescriptor (descriptorBytes flag) = some flag ∧ flag.legal [] = false ∧ wide.legal [[0x41]] = false ∧
      (0 : Byte).getLsbD 0 = false ∧
      (∀ j : DirSlot, (({ describing with points := Vector.replicate 512 retiredPoint } : State).point j).state = .retired) := by
  refine ⟨by decide, by decide, by decide +kernel, by decide +kernel, by decide +kernel, by decide +kernel, by decide +kernel,
    by decide +kernel, by decide +kernel, by decide, fun j => ?_⟩
  simp [State.point, retiredPoint]

theorem witness_BroadcastParkEndsTheStop :
    let s := withLink .l0 (fun r => { r with state := .stopping, call := some broadcastPark }) demo
    (s.link .l0).state = .stopping ∧ (s.link .l0).call = some broadcastPark ∧ broadcastPark.target = none := by decide +kernel

/-- The small running part with a tick of the time base waiting: a state no reset gives, which the laws' hypotheses admit. -/
def ticking : State := demo.setPending [.leaseClockTick]

/-- What holds of the five records in use and of a FREE record in any other slot holds of every record. -/
theorem ticking_points {P : DirSlot → PointRecord → Prop} (h0 : P 0 inPoint) (h1 : P 1 outPoint) (h2 : P 2 modePoint)
    (h3 : P 3 retiredPoint) (h5 : P 5 substPoint) (hr : ∀ i, i ≠ 1 → i ≠ 2 → P i PointRecord.reset) (i : DirSlot) :
    P i (ticking.point i) := by
  have h : ticking.point i = if 5 = i.val then substPoint else if 3 = i.val then retiredPoint else if 2 = i.val then modePoint
      else if 1 = i.val then outPoint else if 0 = i.val then inPoint else PointRecord.reset := by
    change ((((((Vector.replicate 512 PointRecord.reset).set 0 inPoint).set 1 outPoint).set 2 modePoint).set 3
      retiredPoint).set 5 substPoint)[i.val] = _
    simp only [Vector.getElem_set, Vector.getElem_replicate]
  rw [h]
  have hi : ∀ j : DirSlot, j.val = i.val → j = i := fun j => Fin.ext
  split_ifs with h5' h3' h2' h1' h0'
  · exact hi 5 h5' ▸ h5
  · exact hi 3 h3' ▸ h3
  · exact hi 2 h2' ▸ h2
  · exact hi 1 h1' ▸ h1
  · exact hi 0 h0' ▸ h0
  · exact hr i (fun e => h1' (e ▸ rfl)) fun e => h2' (e ▸ rfl)

theorem witness_StepKeepsPortLaws : SlotsLaw ticking ∧ QuietLaw ticking ∧ ∃ t, step ticking = .next t := by
  refine ⟨fun p => ?_, fun h => ?_, _, rfl⟩
  · cases p <;> exact ⟨by decide +kernel, .nil⟩
  · exact absurd h (by decide +kernel)

theorem ticking_quiet : QuietLaw ticking := witness_StepKeepsPortLaws.2.1

theorem witness_StepKeepsMarksLaw : QuietLaw ticking ∧ MarksLaw ticking ∧ ∃ t, step ticking = .next t := by
  have h : ∀ r ∈ [inPoint, outPoint, modePoint, retiredPoint, substPoint, PointRecord.reset], r.marksLawful := by
    intro r hr
    fin_cases hr <;> exact ⟨fun p => by cases p <;> decide, by decide, by decide⟩
  refine ⟨ticking_quiet, ⟨?_, fun p => ?_⟩, _, rfl⟩
  · exact ticking_points (h _ (by simp)) (h _ (by simp)) (h _ (by simp)) (h _ (by simp)) (h _ (by simp)) fun _ _ _ => h _ (by simp)
  · cases p <;> decide +kernel

theorem witness_StepKeepsValueLaws :
    QuietLaw ticking ∧ ValuesLaw ticking ∧ PendingLaw ticking ∧ ∃ t, step ticking = .next t := by
  have hv : ∀ r ∈ [inPoint, outPoint, modePoint, retiredPoint, substPoint, PointRecord.reset], r.valuesLawful ∧
      ∀ p, r.direction = .inp → r.substPort = some p → (ticking.port p).sessionOpen = true ∧ ticking.isSupervisor p = true := by
    intro r hr
    fin_cases hr
    all_goals first
      | exact ⟨fun _ => ⟨by decide, rfl⟩, fun p _ hp => by cases hp; exact ⟨rfl, rfl⟩⟩
      | exact ⟨fun _ => ⟨by decide, rfl, rfl⟩, fun _ _ => nofun⟩
      | exact ⟨nofun, fun _ => nofun⟩
  refine ⟨ticking_quiet, ?_, ?_, _, rfl⟩
  · exact ticking_points (P := fun _ r => r.valuesLawful ∧ ∀ p, r.direction = .inp → r.substPort = some p →
        (ticking.port p).sessionOpen = true ∧ ticking.isSupervisor p = true)
      (hv _ (by simp)) (hv _ (by simp)) (hv _ (by simp)) (hv _ (by simp)) (hv _ (by simp)) fun _ _ _ => hv _ (by simp)
  · exact ticking_points (P := fun _ r => r.direction = .out → (r.pending = true ↔ r.applied = none ∨ r.applied ≠ some r.demand))
      (by decide) (by decide) (by decide) (by decide) (by decide) fun _ _ _ => by decide

theorem witness_StepKeepsLeaseLaws : LeaseLaw ticking ∧ MembersLaw ticking ∧ ∃ t, step ticking = .next t := by
  have h1 : ∀ i, (ticking.point i).lease = if i = 1 then some 0 else if i = 2 then some 1 else none :=
    ticking_points (P := fun i r => r.lease = if i = 1 then some 0 else if i = 2 then some 1 else none) rfl rfl rfl rfl rfl
      fun i h1 h2 => by simp [h1, h2, PointRecord.reset]
  have h2 : ∀ k, (ticking.leaseAt k).members = if k = 0 then [1] else if k = 1 then [2] else [] := by decide +kernel
  refine ⟨fun k => ?_, ⟨fun i k => ?_, fun k => ?_, ?_, ?_⟩, _, rfl⟩
  · have h : ∀ k, ticking.leaseAt k = LeaseRecord.reset ∨ k = 0 ∨ k = 1 ∨ k = 2 := by decide +kernel
    obtain h | rfl | rfl | rfl := h k
    · rw [h]; exact ⟨by decide, by decide, by decide, rfl, rfl, rfl, rfl, rfl, rfl⟩
    · change LeaseRecord.lawful ⟨.held, 1, some .h0, 500, 2, [1], 0, none⟩
      simp [LeaseRecord.lawful]
    · change LeaseRecord.lawful ⟨.held, 1, some .h1, 500, 1, [2], 3, none⟩
      simp [LeaseRecord.lawful]
    · change LeaseRecord.lawful ⟨.lapsed, 1, some .h0, 500, 0, [], 0, some .expired⟩
      simp [LeaseRecord.lawful]
  · rw [h1, h2]
    by_cases i1 : i = 1
    · subst i1
      by_cases k0 : k = 0
      · simp [k0]
      · by_cases k1 : k = 1
        · simp [k1]
        · simp [k0, k1, eq_comm]
    · by_cases i2 : i = 2
      · subst i2
        by_cases k0 : k = 0
        · simp [k0]
        · by_cases k1 : k = 1
          · simp [k1]
          · simp [k0, k1, eq_comm]
      · rw [if_neg i1, if_neg i2]; split_ifs <;> simp [i1, i2]
  · rw [h2]; split_ifs <;> simp
  · exact ticking_points (P := fun _ r => ∀ k, r.lease = some k → r.published = true ∧ r.direction = .out)
      (by simp [inPoint, PointRecord.reset]) (by decide) (by decide) (by simp [retiredPoint, PointRecord.reset])
      (by simp [substPoint, inPoint, PointRecord.reset]) fun _ _ _ => by simp [PointRecord.reset]
  · exact ticking_points (P := fun _ r => r.state ≠ .free → r.state ≠ .retired → r.direction = .out → r.lease = none →
      r.demand = r.safeValue) (by decide) (by decide) (by decide) (by decide) (by decide) fun _ _ _ => by decide

theorem witness_StepKeepsLinkLaw : LinkLaw ticking ∧ ∃ t, step ticking = .next t := by
  refine ⟨fun l => ?_, _, rfl⟩
  cases l <;> decide +kernel

theorem witness_StepKeepsDirectoryLaws : RecordsLaw ticking ∧ NamesLaw ticking ∧ ∃ t, step ticking = .next t := by
  have h0 : (ticking.node 0).state = .online := by decide +kernel
  have h : ∀ i, (ticking.point i).published = true →
      (fullName (ticking.node (ticking.point i).nodeSlot).stationText (ticking.point i).elementName, i) ∈ ticking.nameMap :=
    ticking_points (P := fun i r => r.published = true →
      (fullName (ticking.node r.nodeSlot).stationText r.elementName, i) ∈ ticking.nameMap)
      (by decide +kernel) (by decide +kernel) (by decide +kernel) (by decide +kernel) (by decide +kernel)
      fun _ _ _ hp => by cases hp
  have h' : ∀ e ∈ ticking.nameMap, (ticking.point e.2).published = true ∧
      e.1 = fullName (ticking.node (ticking.point e.2).nodeSlot).stationText (ticking.point e.2).elementName := by
    decide +kernel
  refine ⟨?_, ⟨fun name i => ⟨fun hm => h' _ hm, ?_⟩, by decide +kernel⟩, _, rfl⟩
  · exact ticking_points (P := fun _ r => (r.state = .reserved → (ticking.node r.nodeSlot).state = .describing) ∧
        (r.state = .live → (ticking.node r.nodeSlot).state = .online ∨ (ticking.node r.nodeSlot).state = .resync) ∧
        (r.state = .orphaned → (ticking.node r.nodeSlot).state = .lost))
      ⟨nofun, fun _ => .inl h0, nofun⟩ ⟨nofun, fun _ => .inl h0, nofun⟩ ⟨nofun, fun _ => .inl h0, nofun⟩
      ⟨nofun, nofun, nofun⟩ ⟨nofun, fun _ => .inl h0, nofun⟩ fun _ _ _ => ⟨nofun, nofun, nofun⟩
  · rintro ⟨hp, rfl⟩
    exact h i hp

end Sys2Proof.Tests
end

section
/-! SUPPORT. The record steps that touch values only: what they leave of a point record, said once for the laws of marks and of the
directory. -/

namespace Sys2Proof.Machine

/-- The one record comes from the other by a change of its values: its state, what names it, and its watchers stay. -/
structure PointRecord.ValuesOnly (r r' : PointRecord) : Prop where
  state : r'.state = r.state
  nodeSlot : r'.nodeSlot = r.nodeSlot
  elementName : r'.elementName = r.elementName
  watch : r'.watch = r.watch
  mark : r'.mark = r.mark

namespace PointRecord.ValuesOnly

theorem refl (r : PointRecord) : r.ValuesOnly r := ⟨rfl, rfl, rfl, rfl, rfl⟩

theorem trans {r r' r'' : PointRecord} (h : r.ValuesOnly r') (h' : r'.ValuesOnly r'') : r.ValuesOnly r'' :=
  ⟨h'.state.trans h.state, h'.nodeSlot.trans h.nodeSlot, h'.elementName.trans h.elementName, h'.watch.trans h.watch,
    h'.mark.trans h.mark⟩

theorem setDemand (r : PointRecord) (v : Word32) : r.ValuesOnly (r.setDemand v) := ⟨rfl, rfl, rfl, rfl, rfl⟩

theorem setSafe (r : PointRecord) (v : Word32) : r.ValuesOnly (r.setSafe v) := ⟨rfl, rfl, rfl, rfl, rfl⟩

theorem release (r : PointRecord) : r.ValuesOnly r.release := ⟨rfl, rfl, rfl, rfl, rfl⟩

theorem substituteBy (r : PointRecord) (p : PortId) (v : Word32) : r.ValuesOnly (r.substituteBy p v) :=
  ⟨rfl, rfl, rfl, rfl, rfl⟩

theorem endSubstitution (r : PointRecord) : r.ValuesOnly r.endSubstitution := ⟨rfl, rfl, rfl, rfl, rfl⟩

theorem closeFor (r : PointRecord) (p : PortId) (member : Bool) : r.ValuesOnly (r.closeFor p member) := by
  have hrelease : r.ValuesOnly (if member then r.release else r) := by
    split
    · exact release r
    · exact refl r
  have hend (x : PointRecord) : x.ValuesOnly (if x.substPort = some p then x.endSubstitution else x) := by
    split
    · exact endSubstitution x
    · exact refl x
  exact hrelease.trans (hend _)

theorem takeInput (r : PointRecord) (ans : Answer) : r.ValuesOnly (r.takeInput ans) := by
  unfold PointRecord.takeInput
  dsimp only
  split
  · exact ⟨rfl, rfl, rfl, rfl, rfl⟩
  · exact ⟨rfl, rfl, rfl, rfl, rfl⟩

theorem confirm (r : PointRecord) : r.ValuesOnly r.confirm := by
  unfold PointRecord.confirm
  split
  · exact ⟨rfl, rfl, rfl, rfl, rfl⟩
  · exact ⟨rfl, rfl, rfl, rfl, rfl⟩

theorem standSafe (r : PointRecord) : r.ValuesOnly r.standSafe := ⟨rfl, rfl, rfl, rfl, rfl⟩

theorem exchanged (r : PointRecord) (ans : Answer) : r.ValuesOnly (r.exchanged ans) := by
  unfold PointRecord.exchanged
  split
  · exact takeInput r ans
  · split
    · exact standSafe r
    · exact confirm r

theorem holdCleared (r : PointRecord) : r.ValuesOnly r.holdCleared := by
  unfold PointRecord.holdCleared
  split
  · exact refl r
  · exact ⟨rfl, rfl, rfl, rfl, rfl⟩

theorem resyncReturn (r : PointRecord) : r.ValuesOnly r.resyncReturn := by
  unfold PointRecord.resyncReturn
  split
  · exact ⟨rfl, rfl, rfl, rfl, rfl⟩
  · exact refl r

theorem exchangeFailed (r : PointRecord) : r.ValuesOnly r.exchangeFailed := by
  unfold PointRecord.exchangeFailed
  split
  · exact ⟨rfl, rfl, rfl, rfl, rfl⟩
  · split
    · split
      · exact ⟨rfl, rfl, rfl, rfl, rfl⟩
      · exact ⟨rfl, rfl, rfl, rfl, rfl⟩
    · exact refl r

/-- At the loss of its node a record passes to ORPHANED, and otherwise its qualities alone change (R14, R95). -/
theorem lose (r : PointRecord) : PointRecord.ValuesOnly { r with state := .orphaned } r.lose := by
  unfold PointRecord.lose
  split
  · exact ⟨rfl, rfl, rfl, rfl, rfl⟩
  · split
    · exact ⟨rfl, rfl, rfl, rfl, rfl⟩
    · exact ⟨rfl, rfl, rfl, rfl, rfl⟩

end PointRecord.ValuesOnly

end Sys2Proof.Machine
end

section
/-! The law of marks (R17, R129): every record step keeps it on the record it takes, and every command on the part. -/

namespace Sys2Proof.Machine

/-! ## The law of marks on one record -/

/-- Marks are set on watchers only (R128), so a reportable change keeps the law. -/
theorem PointRecord.marksLawful_report {before after : PointRecord} (h : after.marksLawful) :
    (report before after).marksLawful := by
  obtain ⟨hsub, hretired, hunused⟩ := h
  obtain ⟨_, _, mark, heq, rfl | rfl⟩ := report_fields before after
  · rw [heq]; exact ⟨hsub, hretired, hunused⟩
  · have hunion : after.mark.union after.watch = after.watch := PortSet.ext_has fun p => by
      cases hm : after.mark.has p
      · simp [hm]
      · simp [hm, hsub p hm]
    rw [heq, hunion]
    refine ⟨fun _ hp => hp, fun hst => ?_, hunused⟩
    obtain ⟨hmw, hne⟩ := hretired hst
    exact ⟨rfl, hmw ▸ hne⟩

/-- A record whose state and watchers stay, or which passes to LIVE or ORPHANED with its watchers, keeps the law. -/
theorem PointRecord.marksLawful_of_watchers {r r' : PointRecord} (h : r.marksLawful) (hw : r'.watch = r.watch)
    (hm : r'.mark = r.mark) (hst : r'.state = r.state ∨ r'.published = true) : r'.marksLawful := by
  obtain ⟨hsub, hretired, hunused⟩ := h
  unfold PointRecord.marksLawful
  rw [hw, hm]
  obtain hst | hpub := hst
  · rw [hst]; exact ⟨hsub, hretired, hunused⟩
  · refine ⟨hsub, fun hs => ?_, fun hs => ?_⟩
    · simp [PointRecord.published, hs] at hpub
    · obtain hs | hs := hs <;> simp [PointRecord.published, hs] at hpub

theorem PointRecord.ValuesOnly.marksLawful {r r' : PointRecord} (h : r.ValuesOnly r') (hr : r.marksLawful) :
    r'.marksLawful := PointRecord.marksLawful_of_watchers hr h.watch h.mark (.inl h.state)

/-- A record with no watcher and no mark keeps the law in every state but RETIRED. -/
theorem PointRecord.marksLawful_of_unwatched {r : PointRecord} (hw : r.watch = PortSet.empty) (hm : r.mark = PortSet.empty)
    (hst : r.state ≠ .retired) : r.marksLawful :=
  ⟨fun p hp => by simp [hm] at hp, fun h => absurd h hst, fun _ => hw⟩

theorem PointRecord.marksLawful_freed (r : PointRecord) : r.freed.marksLawful :=
  PointRecord.marksLawful_of_unwatched rfl rfl nofun

theorem PointRecord.marksLawful_orphaned {r : PointRecord} (h : r.marksLawful) : r.lose.marksLawful :=
  (PointRecord.ValuesOnly.lose r).marksLawful (PointRecord.marksLawful_of_watchers h rfl rfl (.inr rfl))

/-- Retirement marks every watcher, and frees a record without watchers (R15, R17). -/
theorem PointRecord.marksLawful_retire {r : PointRecord} (h : r.marksLawful) : r.retire.marksLawful := by
  obtain ⟨hsub, -, -⟩ := h
  unfold PointRecord.retire
  split
  · exact r.marksLawful_freed
  · rename_i hwatched
    have hwithdrawn : r.withdrawn.watch = r.watch ∧ r.withdrawn.mark = r.mark ∧ r.withdrawn.state = .retired := by
      unfold PointRecord.withdrawn
      split
      · exact ⟨rfl, rfl, rfl⟩
      · exact ⟨rfl, rfl, rfl⟩
    obtain ⟨hwatch, hmark, hstate⟩ := hwithdrawn
    have hunion : r.mark.union r.watch = r.watch := PortSet.ext_has fun p => by
      cases hm : r.mark.has p
      · simp [hm]
      · simp [hm, hsub p hm]
    unfold PointRecord.marksLawful noteChange
    simp only [hwatch, hmark, hstate, hunion]
    exact ⟨fun _ hp => hp, fun _ => by simpa using hwatched, nofun⟩

/-- A port that leaves a record's sets takes its watch and its mark with it, and a RETIRED record whose last mark goes is freed
(R17, R132, R139). -/
theorem PointRecord.marksLawful_dropWatcher {r : PointRecord} (h : r.marksLawful) (p : PortId) :
    (r.dropWatcher p).marksLawful := by
  obtain ⟨hsub, hretired, hunused⟩ := h
  unfold PointRecord.dropWatcher
  dsimp only
  split
  · exact PointRecord.marksLawful_freed _
  · rename_i hkept
    refine ⟨fun q hq => ?_, fun hst => ?_, fun hst => ?_⟩
    · simp only [PortSet.has_drop, Bool.and_eq_true] at hq ⊢
      exact ⟨hq.1, hsub q hq.2⟩
    · obtain ⟨hmw, hne⟩ := hretired hst
      refine ⟨congrArg (PortSet.drop · p) hmw, ?_⟩
      cases hm : r.mark.has p
      · have hdrop : r.mark.drop p = r.mark := PortSet.ext_has fun q => by
          by_cases hq : q = p
          · simp [hq, hm]
          · simp [hq]
        change (r.mark.drop p).isEmpty = false
        rw [hdrop]
        exact hne
      · exact Bool.eq_false_iff.mpr fun hlast => hkept ⟨hst, hm, hlast⟩
    · exact PortSet.ext_has fun q => by simp [hunused hst]

theorem PointRecord.marksLawful_watchedBy {r : PointRecord} (h : r.marksLawful) (hpub : r.published = true) (p : PortId) :
    (r.watchedBy p).marksLawful := by
  obtain ⟨hsub, -, -⟩ := h
  refine ⟨fun q hq => ?_, fun hst => ?_, fun hst => ?_⟩
  · simp only [PointRecord.watchedBy, PortSet.has_add, Bool.or_eq_true] at hq ⊢
    exact hq.imp_right (hsub q)
  · have hst : r.state = .retired := hst
    simp [PointRecord.published, hst] at hpub
  · have hst : r.state = .free ∨ r.state = .reserved := hst
    obtain hst | hst := hst <;> simp [PointRecord.published, hst] at hpub

theorem PointRecord.marksLawful_acknowledged {r : PointRecord} (h : r.marksLawful) (hpub : r.published = true) (p : PortId) :
    PointRecord.marksLawful { r with mark := r.mark.drop p } := by
  obtain ⟨hsub, -, -⟩ := h
  refine ⟨fun q hq => ?_, fun hst => ?_, fun hst => ?_⟩
  · simp only [PortSet.has_drop, Bool.and_eq_true] at hq
    exact hsub q hq.2
  · have hst : r.state = .retired := hst
    simp [PointRecord.published, hst] at hpub
  · have hst : r.state = .free ∨ r.state = .reserved := hst
    obtain hst | hst := hst <;> simp [PointRecord.published, hst] at hpub

/-- Every record step keeps the law of marks on the record (R17). -/
theorem RecordStep.marksLawful {r r' : PointRecord} (h : RecordStep r r') (hr : r.marksLawful) : r'.marksLawful := by
  cases h with
  | reset => exact PointRecord.marksLawful_of_unwatched rfl rfl nofun
  | reserve => exact PointRecord.marksLawful_of_unwatched rfl rfl nofun
  | unreserve => exact r.marksLawful_freed
  | publish => exact PointRecord.marksLawful_of_watchers hr rfl rfl (.inr rfl)
  | lose => exact PointRecord.marksLawful_report (PointRecord.marksLawful_orphaned hr)
  | back => exact PointRecord.marksLawful_report (PointRecord.marksLawful_of_watchers hr rfl rfl (.inr rfl))
  | retire => exact PointRecord.marksLawful_retire hr
  | exchanged ans => exact PointRecord.marksLawful_report ((PointRecord.ValuesOnly.exchanged r ans).marksLawful hr)
  | holdCleared => exact PointRecord.marksLawful_report ((PointRecord.ValuesOnly.holdCleared r).marksLawful hr)
  | resyncReturn => exact PointRecord.marksLawful_report ((PointRecord.ValuesOnly.resyncReturn r).marksLawful hr)
  | exchangeFailed => exact PointRecord.marksLawful_report ((PointRecord.ValuesOnly.exchangeFailed r).marksLawful hr)
  | failedAndLost =>
    exact PointRecord.marksLawful_report
      (PointRecord.marksLawful_orphaned ((PointRecord.ValuesOnly.exchangeFailed r).marksLawful hr))
  | clearInFlight => exact PointRecord.marksLawful_of_watchers hr rfl rfl (.inl rfl)
  | snapshot => exact PointRecord.marksLawful_of_watchers hr rfl rfl (.inl rfl)
  | write v => exact PointRecord.marksLawful_report ((PointRecord.ValuesOnly.setDemand r v).marksLawful hr)
  | setSafe v => exact PointRecord.marksLawful_report ((PointRecord.ValuesOnly.setSafe r v).marksLawful hr)
  | substitute p v => exact PointRecord.marksLawful_report ((PointRecord.ValuesOnly.substituteBy r p v).marksLawful hr)
  | endSubstitution => exact PointRecord.marksLawful_report ((PointRecord.ValuesOnly.endSubstitution r).marksLawful hr)
  | claim => exact PointRecord.marksLawful_report (PointRecord.marksLawful_of_watchers hr rfl rfl (.inl rfl))
  | release => exact PointRecord.marksLawful_report ((PointRecord.ValuesOnly.release r).marksLawful hr)
  | closeFor p m => exact PointRecord.marksLawful_report ((PointRecord.ValuesOnly.closeFor r p m).marksLawful hr)
  | watch p hpub => exact PointRecord.marksLawful_watchedBy hr hpub p
  | unwatch p => exact PointRecord.marksLawful_dropWatcher hr p
  | acknowledge p hpub => exact PointRecord.marksLawful_acknowledged hr hpub p
  | setDeadband => exact PointRecord.marksLawful_of_watchers hr rfl rfl (.inl rfl)

/-! ## The law of marks on the part -/

/-- The law of marks reads the point records and the marked counts alone. -/
theorem MarksLaw.congr {s t : State} (h : MarksLaw s) (hpoints : t.points = s.points)
    (hcount : ∀ p, (t.port p).markedCount = (s.port p).markedCount) : MarksLaw t := by
  obtain ⟨hrecords, hcounts⟩ := h
  refine ⟨fun i => ?_, fun p => ?_⟩
  · simpa only [State.point, hpoints] using hrecords i
  · simpa only [State.marksOf, hpoints, hcount p] using hcounts p

/-- A port that no record is marked for has no marks. -/
theorem State.marksOf_eq_zero {s : State} {p : PortId} (h : ∀ i, (s.point i).mark.has p = false) : s.marksOf p = 0 := by
  refine List.countP_eq_zero.mpr fun r hr => ?_
  obtain ⟨i, hi, rfl⟩ := List.getElem_of_mem hr
  simpa [State.point] using h ⟨i, by simpa using hi⟩

theorem State.point_of_reset {t : State} (h : t.points = State.reset.points) (i : DirSlot) :
    t.point i = PointRecord.reset := by simp [State.point, h, State.reset]

/-- The law of marks holds of a part with reset records and counts of 0 (R26, R160). -/
theorem MarksLaw.of_reset {t : State} (hpoints : t.points = State.reset.points)
    (hcount : ∀ p, (t.port p).markedCount = 0) : MarksLaw t := by
  refine ⟨fun i => ?_, fun p => ?_⟩
  · rw [State.point_of_reset hpoints]; exact PointRecord.marksLawful_of_unwatched rfl rfl nofun
  · rw [hcount, State.marksOf_eq_zero fun i => by rw [State.point_of_reset hpoints]; exact PortSet.has_empty p]

/-- One change keeps every marked count at the number of marks (R129). -/
theorem Change.markedCount {s t : State} (h : Change s t) (hs : ∀ p, (s.port p).markedCount = s.marksOf p) (p : PortId) :
    (t.port p).markedCount = t.marksOf p := by
  cases h with
  | points g hg => exact State.updatePoints_marks s g p (hs p)
  | session q r _ hcount =>
    have hmarks : (s.setPort q r).marksOf p = s.marksOf p := by simp [State.marksOf]
    rw [hmarks, State.setPort_port]
    split
    · rename_i hp
      subst hp
      obtain hsame | ⟨hzero, hnone⟩ := hcount
      · rw [hsame, hs]
      · rw [hzero, State.marksOf_eq_zero hnone]
    · exact hs p
  | _ => simpa [State.marksOf] using hs p

theorem Follows.marksLaw {s t : State} (h : Follows s t) (hs : MarksLaw s) : MarksLaw t :=
  ⟨h.records PointRecord.marksLawful (fun _ _ hstep => hstep.marksLawful) hs.1,
    h.keeps (fun s => ∀ p, (s.port p).markedCount = s.marksOf p) (fun _ _ hc => hc.markedCount) hs.2⟩

theorem MarksLaw.finishGrant {s : State} (h : MarksLaw s) (p : PortId) (r : Response) : MarksLaw (s.finishGrant p r) :=
  h.congr (State.finishGrant_points s p r) fun q => by
    rw [State.finishGrant_port]
    split
    · rename_i hq; rw [hq]
    · rfl

theorem MarksLaw.setPort {s : State} (h : MarksLaw s) {p : PortId} {r : PortRecord}
    (hr : r.markedCount = (s.port p).markedCount) : MarksLaw (s.setPort p r) :=
  h.congr (State.setPort_points s p r) fun q => by
    rw [State.setPort_port]
    split
    · rename_i hq; rw [hq, hr]
    · rfl

theorem PortRecord.dispose_markedCount (r : PortRecord) (out : OutFrame) (bytes : List Byte) :
    (r.dispose out bytes).markedCount = r.markedCount := by
  unfold PortRecord.dispose
  split <;> rfl

theorem PortRecord.accept_markedCount (r : PortRecord) (bytes : List Byte) :
    (r.accept bytes).markedCount = r.markedCount := by
  unfold PortRecord.accept
  split
  · rfl
  · rfl
  · split
    · rfl
    · split <;> rfl

theorem State.resetBlocks_markedCount (s : State) (p : PortId) : (s.resetBlocks.port p).markedCount = 0 := by
  cases p <;> rfl

/-- What the close of a window can do: nothing, the reset of an acknowledged RESET_DEVICE, or a change of its port's record that
leaves the marked count (R141, R142, R145, R146, R164). -/
theorem execWindowClose_cases {p : PortId} {edge : CloseEdge} {s t : State}
    (h : execWindowClose p edge s = .next t) :
    t = s ∨ (∃ u a b, t = State.deviceReset u a b) ∨
      ∃ r, t = s.setPort p r ∧ r.markedCount = (s.port p).markedCount := by
  unfold execWindowClose at h
  dsimp only at h
  cases h
  split
  · exact .inl rfl
  · exact .inr (.inr ⟨_, rfl, rfl⟩)
  · split
    · exact .inr (.inl ⟨_, _, _, rfl⟩)
    · exact .inr (.inr ⟨_, rfl, (PortRecord.accept_markedCount _ _).trans (PortRecord.dispose_markedCount _ _ _)⟩)

/-- Every command keeps the law of marks. In CHECKING the marked counts are at their reset values, so that the end of the check, which
resets the point records alone, keeps it too. -/
theorem exec_marksLaw {c : Instr} {s t : State} (hquiet : QuietLaw s) (hs : MarksLaw s) (h : exec c s = .next t) :
    MarksLaw t := by
  cases c with
  | reset => cases h; exact .of_reset rfl s.resetBlocks_markedCount
  | resetEnd a b =>
    cases h
    split
    · exact hs.congr rfl fun p => by cases p <;> rfl
    · exact hs
  | checkEnd passed =>
    cases h
    split
    · rename_i hchecking
      obtain ⟨-, -, -, -, -, -, hports⟩ := hquiet (by simp [State.serving, hchecking])
      have hcount (p : PortId) : (s.port p).markedCount = 0 := congrArg PortRecord.markedCount (hports p).1
      refine .of_reset rfl fun p => ?_
      cases p
      · exact hcount .h0
      · exact hcount .h1
      · exact hcount .h2
    · exact hs
  | windowOpen p =>
    cases h
    split
    · exact hs
    · exact hs.setPort rfl
  | windowClose p edge =>
    obtain rfl | ⟨u, a, b, rfl⟩ | ⟨r, rfl, hr⟩ := execWindowClose_cases h
    · exact hs
    · exact .of_reset rfl fun q => by cases q <;> rfl
    · exact hs.setPort hr
  | _ =>
    obtain hf | ⟨p, e, u, r, -, hf, rfl⟩ := exec_granted h nofun nofun nofun nofun nofun
    · exact hf.marksLaw hs
    · exact (hf.marksLaw hs).finishGrant p r

/-- A step idles, or runs a command with the queue's rest (log entry 2). -/
theorem step_next {s t : State} (h : step s = .next t) : t = s ∨ ∃ c rest, exec c (s.setPending rest) = .next t := by
  unfold step at h
  split at h
  · cases h; exact .inl rfl
  · exact .inr ⟨_, _, h⟩

theorem QuietLaw.setPending {s : State} (h : QuietLaw s) (q : List Instr) : QuietLaw (s.setPending q) := by
  intro hserving
  obtain ⟨hpoints, hnames, hnodes, hleases, hlinks, hpointer, hports⟩ := h hserving
  exact ⟨hpoints, hnames, hnodes, hleases, fun l => by simpa using hlinks l, hpointer, fun p => by simpa using hports p⟩

theorem MarksLaw.setPending {s : State} (h : MarksLaw s) (q : List Instr) : MarksLaw (s.setPending q) :=
  h.congr rfl fun p => by simp

/-- Settles O56: the law of marks holds of each record through every record step, and the marked counts follow the marks through every
change. -/
theorem stepKeepsMarksLaw : Obligations.StepKeepsMarksLaw := by
  intro s t hquiet hmarks h
  obtain rfl | ⟨c, rest, hexec⟩ := step_next h
  · exact hmarks
  · exact exec_marksLaw (hquiet.setPending rest) (hmarks.setPending rest) hexec

end Sys2Proof.Machine
end

section
/-! SUPPORT. The laws of point states and of the name map (R6, R19): what each operation of the directory and of the node table does to
them. -/

namespace Sys2Proof.Machine

/-! ## The laws in one -/

/-- R6: the states of a node in which one of its records can be in a state. -/
def PointState.goesWith (st : PointState) (node : NodeState) : Prop :=
  match st with
  | .free | .retired => True
  | .reserved => node = .describing
  | .live => node = .online ∨ node = .resync
  | .orphaned => node = .lost

theorem recordsLaw_iff (s : State) :
    RecordsLaw s ↔ ∀ i, (s.point i).state.goesWith (s.node (s.point i).nodeSlot).state := by
  refine forall_congr' fun i => ?_
  cases (s.point i).state <;> simp [PointState.goesWith]

/-- The full name of the record in a slot (R1). -/
def State.fullNameOf (s : State) (i : DirSlot) : Text :=
  fullName (s.node (s.point i).nodeSlot).stationText (s.point i).elementName

/-- The laws of the directory: R6 and R19. -/
def DirectoryLaws (s : State) : Prop := RecordsLaw s ∧ NamesLaw s

/-- No record of the node is LIVE or ORPHANED. -/
def State.NoPublished (s : State) (n : NodeSlot) : Prop := ∀ i, (s.point i).nodeSlot = n → (s.point i).published = false

/-- No record of the node is RESERVED. -/
def State.NoReserved (s : State) (n : NodeSlot) : Prop := ∀ i, (s.point i).nodeSlot = n → (s.point i).state ≠ .reserved

theorem PointRecord.published_iff (r : PointRecord) : r.published = true ↔ r.state = .live ∨ r.state = .orphaned := by
  simp [PointRecord.published]

theorem PointRecord.publishedOf_iff (r : PointRecord) (n : NodeSlot) :
    r.publishedOf n = true ↔ r.published = true ∧ r.nodeSlot = n := by
  simp [PointRecord.publishedOf]

theorem PointRecord.not_published_of_state {r : PointRecord} (h : r.state = .free ∨ r.state = .retired ∨ r.state = .reserved) :
    r.published = false := by
  obtain h | h | h := h <;> simp [PointRecord.published, h]

/-- A record in none of the states the laws speak of. -/
def PointRecord.idle (r : PointRecord) : Prop := r.state = .free ∨ r.state = .retired

theorem PointRecord.idle.not_published {r : PointRecord} (h : r.idle) : r.published = false :=
  PointRecord.not_published_of_state (h.imp_right .inl)

theorem PointRecord.idle.goesWith {r : PointRecord} (h : r.idle) (node : NodeState) : r.state.goesWith node := by
  obtain h | h := h
  · rw [h]; trivial
  · rw [h]; trivial

/-- A record of an ONLINE or RESYNC node that is in use is LIVE (R6). -/
theorem PointRecord.idle_or_live {r : PointRecord} {node : NodeState} (h : r.state.goesWith node)
    (hnode : node = .online ∨ node = .resync) : r.idle ∨ r.state = .live := by
  unfold PointRecord.idle
  obtain rfl | rfl := hnode <;> cases hst : r.state <;> simp [hst, PointState.goesWith] at h ⊢

/-- A record of a LOST node that is in use is ORPHANED (R6). -/
theorem PointRecord.idle_or_orphaned {r : PointRecord} (h : r.state.goesWith .lost) : r.idle ∨ r.state = .orphaned := by
  unfold PointRecord.idle
  cases hst : r.state <;> simp [hst, PointState.goesWith] at h ⊢

/-- A record in use that is neither LIVE nor ORPHANED is RESERVED. -/
theorem PointRecord.idle_or_reserved {r : PointRecord} (h : r.published = false) : r.idle ∨ r.state = .reserved := by
  unfold PointRecord.idle
  cases hst : r.state <;> simp [hst, PointRecord.published] at h ⊢

/-- A node that is neither exchanging nor lost has no LIVE or ORPHANED record (R6). -/
theorem RecordsLaw.noPublished {s : State} (h : RecordsLaw s) {n : NodeSlot} (hst : (s.node n).hasPoints = false) :
    s.NoPublished n := by
  intro i hi
  have hgoes := (recordsLaw_iff s).mp h i
  rw [hi] at hgoes
  refine Bool.eq_false_iff.mpr fun hpub => ?_
  obtain hlive | horphaned := (PointRecord.published_iff _).mp hpub
  · rw [hlive] at hgoes
    obtain hn | hn := hgoes <;> simp [NodeRecord.hasPoints, hn] at hst
  · rw [horphaned] at hgoes
    have hn : (s.node n).state = .lost := hgoes
    simp [NodeRecord.hasPoints, hn] at hst

/-- A node that is not DESCRIBING has no RESERVED record (R6). -/
theorem RecordsLaw.noReserved {s : State} (h : RecordsLaw s) {n : NodeSlot} (hst : (s.node n).state ≠ .describing) :
    s.NoReserved n := by
  intro i hi hres
  have hgoes := (recordsLaw_iff s).mp h i
  rw [hi, hres] at hgoes
  exact hst hgoes

/-- The law of the name map reads the map, which records are LIVE or ORPHANED, and their full names. -/
theorem NamesLaw.congr {s t : State} (h : NamesLaw s) (hmap : t.nameMap = s.nameMap)
    (hpub : ∀ i, (t.point i).published = (s.point i).published)
    (hname : ∀ i, (s.point i).published = true → t.fullNameOf i = s.fullNameOf i) : NamesLaw t := by
  obtain ⟨hmem, hnodup⟩ := h
  refine ⟨fun name i => ?_, by rw [hmap]; exact hnodup⟩
  rw [hmap, hmem, hpub]
  exact and_congr_right fun hp => by rw [← State.fullNameOf, ← State.fullNameOf, hname i hp]

/-! ## Operations that leave the directory alone -/

/-- The two parts agree in all that the laws of the directory read. -/
structure State.SameDirectory (s t : State) : Prop where
  nameMap : t.nameMap = s.nameMap
  nodeState : ∀ n, (t.node n).state = (s.node n).state
  stationName : ∀ n, (t.node n).stationName = (s.node n).stationName
  point : ∀ i, ((t.point i).state = (s.point i).state ∧ (t.point i).nodeSlot = (s.point i).nodeSlot ∧
    (t.point i).elementName = (s.point i).elementName) ∨ ((s.point i).idle ∧ (t.point i).idle)

theorem State.SameDirectory.laws {s t : State} (h : s.SameDirectory t) (hs : DirectoryLaws s) : DirectoryLaws t := by
  obtain ⟨hrecords, hnames⟩ := hs
  refine ⟨(recordsLaw_iff t).mpr fun i => ?_, hnames.congr h.nameMap (fun i => ?_) fun i hpub => ?_⟩
  · obtain ⟨hst, hn, -⟩ | ⟨-, hidle⟩ := h.point i
    · rw [hst, hn, h.nodeState]; exact (recordsLaw_iff s).mp hrecords i
    · exact hidle.goesWith _
  · obtain ⟨hst, -, -⟩ | ⟨hidle, hidle'⟩ := h.point i
    · unfold PointRecord.published; rw [hst]
    · rw [hidle.not_published, hidle'.not_published]
  · obtain ⟨-, hn, he⟩ | ⟨hidle, -⟩ := h.point i
    · unfold State.fullNameOf NodeRecord.stationText; rw [hn, he, h.stationName]
    · rw [hidle.not_published] at hpub; cases hpub

namespace State.SameDirectory

theorem refl (s : State) : s.SameDirectory s := ⟨rfl, fun _ => rfl, fun _ => rfl, fun _ => .inl ⟨rfl, rfl, rfl⟩⟩

theorem trans {s t u : State} (h : s.SameDirectory t) (h' : t.SameDirectory u) : s.SameDirectory u where
  nameMap := h'.nameMap.trans h.nameMap
  nodeState n := (h'.nodeState n).trans (h.nodeState n)
  stationName n := (h'.stationName n).trans (h.stationName n)
  point i := by
    obtain ⟨hst, hn, he⟩ | ⟨hs, ht⟩ := h.point i
    · obtain ⟨hst', hn', he'⟩ | ⟨ht, hu⟩ := h'.point i
      · exact .inl ⟨hst'.trans hst, hn'.trans hn, he'.trans he⟩
      · refine .inr ⟨?_, hu⟩
        unfold PointRecord.idle at ht ⊢
        rwa [hst] at ht
    · obtain ⟨hst', -, -⟩ | ⟨-, hu⟩ := h'.point i
      · refine .inr ⟨hs, ?_⟩
        unfold PointRecord.idle at ht ⊢
        rwa [hst']
      · exact .inr ⟨hs, hu⟩

theorem setPort (s : State) (p : PortId) (r : PortRecord) : s.SameDirectory (s.setPort p r) :=
  ⟨by simp, fun n => by simp, fun n => by simp, fun i => .inl (by simp)⟩

theorem setLink (s : State) (l : LinkId) (r : LinkRecord) : s.SameDirectory (s.setLink l r) :=
  ⟨by simp, fun n => by simp, fun n => by simp, fun i => .inl (by simp)⟩

theorem setLease (s : State) (k : LeaseIndex) (r : LeaseRecord) : s.SameDirectory (s.setLease k r) :=
  ⟨rfl, fun _ => rfl, fun _ => rfl, fun _ => .inl ⟨rfl, rfl, rfl⟩⟩

theorem mapLeases (s : State) (f : LeaseIndex → LeaseRecord → LeaseRecord) : s.SameDirectory (s.mapLeases f) :=
  ⟨rfl, fun _ => rfl, fun _ => rfl, fun _ => .inl ⟨rfl, rfl, rfl⟩⟩

theorem setPending (s : State) (q : List Instr) : s.SameDirectory (s.setPending q) :=
  ⟨rfl, fun _ => rfl, fun _ => rfl, fun _ => .inl ⟨rfl, rfl, rfl⟩⟩

theorem finishGrant (s : State) (p : PortId) (r : Response) : s.SameDirectory (s.finishGrant p r) :=
  ⟨by simp, fun n => by simp, fun n => by simp, fun i => .inl (by simp)⟩

theorem setNode {s : State} {n : NodeSlot} {r : NodeRecord} (hst : r.state = (s.node n).state)
    (hname : r.stationName = (s.node n).stationName) : s.SameDirectory (s.setNode n r) where
  nameMap := rfl
  nodeState m := by
    rw [State.setNode_node]
    split
    · rename_i hm; rw [hm, hst]
    · rfl
  stationName m := by
    rw [State.setNode_node]
    split
    · rename_i hm; rw [hm, hname]
    · rfl
  point _ := .inl ⟨rfl, rfl, rfl⟩

theorem mapNodes {s : State} {f : NodeSlot → NodeRecord → NodeRecord}
    (h : ∀ n, (f n (s.node n)).state = (s.node n).state ∧ (f n (s.node n)).stationName = (s.node n).stationName) :
    s.SameDirectory (s.mapNodes f) :=
  ⟨rfl, fun n => by rw [State.mapNodes_node, (h n).1], fun n => by rw [State.mapNodes_node, (h n).2],
    fun _ => .inl ⟨rfl, rfl, rfl⟩⟩

theorem updatePoints {s : State} {g : DirSlot → PointRecord → PointRecord}
    (h : ∀ i r, ((g i r).state = r.state ∧ (g i r).nodeSlot = r.nodeSlot ∧ (g i r).elementName = r.elementName) ∨
      (r.idle ∧ (g i r).idle)) : s.SameDirectory (s.updatePoints g) :=
  ⟨rfl, fun _ => rfl, fun _ => rfl, fun i => by rw [State.updatePoints_point]; exact h i _⟩

/-- An event that changes values alone. -/
theorem event {s : State} {f : DirSlot → PointRecord → PointRecord} (h : ∀ i (r : PointRecord), r.ValuesOnly (f i r)) :
    s.SameDirectory (s.event f) :=
  updatePoints fun i r => .inl (by
    rw [report_state, report_nodeSlot, report_elementName]
    exact ⟨(h i r).state, (h i r).nodeSlot, (h i r).elementName⟩)

end State.SameDirectory

/-! ## Changes of node records -/

/-- A node record that keeps its state and name keeps the laws. -/
theorem DirectoryLaws.setNode_same {s : State} (h : DirectoryLaws s) {n : NodeSlot} {r : NodeRecord}
    (hst : r.state = (s.node n).state) (hname : r.stationName = (s.node n).stationName) : DirectoryLaws (s.setNode n r) :=
  (State.SameDirectory.setNode hst hname).laws h

/-- Node records may change in any way where they have no record the laws speak of. -/
theorem DirectoryLaws.of_nodes {s t : State} (h : DirectoryLaws s) (hpoint : ∀ i, t.point i = s.point i)
    (hmap : t.nameMap = s.nameMap)
    (hnode : ∀ n, ((t.node n).state = (s.node n).state ∧ (t.node n).stationName = (s.node n).stationName) ∨
      (s.NoPublished n ∧ (s.NoReserved n ∨ (t.node n).state = .describing))) : DirectoryLaws t := by
  obtain ⟨hrecords, hnames⟩ := h
  refine ⟨(recordsLaw_iff t).mpr fun i => ?_, hnames.congr hmap (fun i => by rw [hpoint]) fun i hpub => ?_⟩
  · have hgoes := (recordsLaw_iff s).mp hrecords i
    rw [hpoint]
    obtain ⟨hst, -⟩ | ⟨hpub, hres⟩ := hnode (s.point i).nodeSlot
    · rwa [hst]
    · obtain hidle | hst := PointRecord.idle_or_reserved (hpub i rfl)
      · exact hidle.goesWith _
      · rw [hst]; exact hres.resolve_left fun hnone => hnone i rfl hst
  · obtain ⟨-, hname⟩ | ⟨hnone, -⟩ := hnode (s.point i).nodeSlot
    · unfold State.fullNameOf NodeRecord.stationText; rw [hpoint, hname]
    · rw [hnone i rfl] at hpub; cases hpub

theorem DirectoryLaws.setNode {s : State} (h : DirectoryLaws s) {n : NodeSlot} {r : NodeRecord} (hpub : s.NoPublished n)
    (hres : s.NoReserved n ∨ r.state = .describing) : DirectoryLaws (s.setNode n r) :=
  h.of_nodes (fun _ => rfl) rfl fun m => by
    rw [State.setNode_node]
    split
    · rename_i hm; subst hm; exact .inr ⟨hpub, hres⟩
    · exact .inl ⟨rfl, rfl⟩

/-- Nodes and their records pass to other states together, with their names: LIVE and ORPHANED records stay so (R14). -/
theorem DirectoryLaws.of_passage {s t : State} (h : DirectoryLaws s) (hmap : t.nameMap = s.nameMap)
    (hstation : ∀ n, (t.node n).stationName = (s.node n).stationName)
    (hslot : ∀ i, (t.point i).nodeSlot = (s.point i).nodeSlot)
    (helement : ∀ i, (t.point i).elementName = (s.point i).elementName)
    (hpub : ∀ i, (t.point i).published = (s.point i).published)
    (hgoes : ∀ i, (s.point i).state.goesWith (s.node (s.point i).nodeSlot).state →
      (t.point i).state.goesWith (t.node (s.point i).nodeSlot).state) : DirectoryLaws t := by
  obtain ⟨hrecords, hnames⟩ := h
  refine ⟨(recordsLaw_iff t).mpr fun i => ?_, hnames.congr hmap hpub fun i _ => ?_⟩
  · rw [hslot]; exact hgoes i ((recordsLaw_iff s).mp hrecords i)
  · unfold State.fullNameOf NodeRecord.stationText; rw [hslot, helement, hstation]

/-- A node passes between ONLINE and RESYNC, or stays in its state, under its name. -/
theorem DirectoryLaws.setNode_exchanging {s : State} (h : DirectoryLaws s) {n : NodeSlot} {r : NodeRecord}
    (hname : r.stationName = (s.node n).stationName) (hold : (s.node n).state = .online ∨ (s.node n).state = .resync)
    (hnew : r.state = .online ∨ r.state = .resync) : DirectoryLaws (s.setNode n r) := by
  refine h.of_passage rfl (fun m => ?_) (fun _ => rfl) (fun _ => rfl) (fun _ => rfl) fun i hgoes => ?_
  · rw [State.setNode_node]
    split
    · rename_i hm; rw [hm, hname]
    · rfl
  · rw [State.setNode_point, State.setNode_node]
    split
    · rename_i hn
      obtain hidle | hlive := PointRecord.idle_or_live hgoes (hn ▸ hold)
      · exact hidle.goesWith _
      · rw [hlive]; exact hnew
    · exact hgoes

/-! ## Reservation and its release (R9, R12) -/

/-- Some RESERVED records pass to FREE: they are under no name. -/
theorem DirectoryLaws.freeReserved {s : State} (h : DirectoryLaws s) (gone : PointRecord → Prop) [DecidablePred gone]
    (hgone : ∀ r, gone r → r.state = .reserved) :
    DirectoryLaws (s.updatePoints fun _ r => if gone r then r.freed else r) := by
  obtain ⟨hrecords, hnames⟩ := h
  refine ⟨(recordsLaw_iff _).mpr fun i => ?_, hnames.congr rfl (fun i => ?_) fun i hpub => ?_⟩
  · rw [State.updatePoints_point]
    split
    · trivial
    · exact (recordsLaw_iff s).mp hrecords i
  · rw [State.updatePoints_point]
    split
    · rename_i hi
      rw [PointRecord.not_published_of_state (.inr (.inr (hgone _ hi)))]
      rfl
    · rfl
  · have hkept : ¬gone (s.point i) := fun hi => by
      rw [PointRecord.not_published_of_state (.inr (.inr (hgone _ hi)))] at hpub; cases hpub
    unfold State.fullNameOf
    rw [State.updatePoints_point, if_neg hkept, State.updatePoints_node]

theorem DirectoryLaws.releaseReservations {s : State} (h : DirectoryLaws s) (n : NodeSlot) :
    DirectoryLaws (s.releaseReservations n) := h.freeReserved (fun r => r.state = .reserved ∧ r.nodeSlot = n) fun _ => And.left

theorem State.releaseReservations_point (s : State) (n : NodeSlot) (i : DirSlot) :
    (s.releaseReservations n).point i =
      if (s.point i).state = .reserved ∧ (s.point i).nodeSlot = n then (s.point i).freed else s.point i :=
  State.updatePoints_point _ _ _

theorem State.noReserved_releaseReservations (s : State) (n : NodeSlot) : (s.releaseReservations n).NoReserved n := by
  intro i
  rw [State.releaseReservations_point]
  split
  · intro _; exact nofun
  · rename_i hkept
    exact fun hn hst => hkept ⟨hst, hn⟩

theorem State.NoPublished.releaseReservations {s : State} {n : NodeSlot} (h : s.NoPublished n) (m : NodeSlot) :
    (s.releaseReservations m).NoPublished n := by
  intro i
  rw [State.releaseReservations_point]
  split
  · intro _; rfl
  · exact h i

/-- An element of a DESCRIBING node takes a FREE record, which becomes RESERVED (R9). -/
theorem DirectoryLaws.reserve {s : State} (h : DirectoryLaws s) {n : NodeSlot} {i : DirSlot} {index offset : Nat}
    {d : Descriptor} (hst : (s.node n).state = .describing) (hfree : (s.point i).state = .free) :
    DirectoryLaws (s.updatePoints fun j r => if j = i then reservedRecord r.generation n index offset d else r) := by
  obtain ⟨hrecords, hnames⟩ := h
  refine ⟨(recordsLaw_iff _).mpr fun j => ?_, hnames.congr rfl (fun j => ?_) fun j hpub => ?_⟩
  · rw [State.updatePoints_point]
    split
    · exact hst
    · exact (recordsLaw_iff s).mp hrecords j
  · rw [State.updatePoints_point]
    split
    · rename_i hj
      rw [hj, PointRecord.not_published_of_state (.inl hfree)]
      rfl
    · rfl
  · have hj : j ≠ i := fun hj => by
      rw [hj, PointRecord.not_published_of_state (.inl hfree)] at hpub; cases hpub
    unfold State.fullNameOf
    rw [State.updatePoints_point, if_neg hj, State.updatePoints_node]

/-! ## Retirement (R15, R16, R19) -/

theorem State.retireNode_node (s : State) (n m : NodeSlot) : (s.retireNode n).node m = s.node m := rfl

theorem State.retireNode_point (s : State) (n : NodeSlot) (i : DirSlot) :
    (s.retireNode n).point i = if (s.point i).publishedOf n then (s.point i).retire else s.point i :=
  State.updatePoints_point _ _ _

theorem State.retireNode_nameMap (s : State) (n : NodeSlot) :
    (s.retireNode n).nameMap = s.nameMap.filter fun e => !(s.point e.2).publishedOf n := rfl

/-- A record that has been retired is FREE or RETIRED. -/
theorem PointRecord.retire_idle (r : PointRecord) : r.retire.idle := by
  unfold PointRecord.retire
  split
  · exact .inl rfl
  · unfold noteChange PointRecord.withdrawn
    split
    · exact .inr rfl
    · exact .inr rfl

theorem State.noPublished_retireNode (s : State) (n : NodeSlot) : (s.retireNode n).NoPublished n := by
  intro i
  rw [State.retireNode_point]
  split
  · intro _; exact (PointRecord.retire_idle _).not_published
  · rename_i hkept
    intro hn
    refine Bool.eq_false_iff.mpr fun hpub => hkept ?_
    exact (PointRecord.publishedOf_iff _ _).mpr ⟨hpub, hn⟩

theorem DirectoryLaws.retireNode {s : State} (h : DirectoryLaws s) (n : NodeSlot) : DirectoryLaws (s.retireNode n) := by
  obtain ⟨hrecords, hmem, hnodup⟩ := h
  refine ⟨(recordsLaw_iff _).mpr fun i => ?_, fun name i => ?_, ?_⟩
  · rw [State.retireNode_point]
    split
    · exact (PointRecord.retire_idle _).goesWith _
    · exact (recordsLaw_iff s).mp hrecords i
  · rw [State.retireNode_nameMap, List.mem_filter, hmem, State.retireNode_point, State.retireNode_node]
    by_cases hgone : (s.point i).publishedOf n = true
    · simp [hgone, (PointRecord.retire_idle _).not_published]
    · simp [hgone]
  · rw [State.retireNode_nameMap]
    exact (List.filter_sublist.map _).nodup hnodup

/-! ## Publication (R13, R40) -/

/-- The records that publication makes LIVE. -/
abbrev PointRecord.reservedOf (r : PointRecord) (n : NodeSlot) : Prop := r.state = .reserved ∧ r.nodeSlot = n

theorem State.publish_point (s : State) (n : NodeSlot) (i : DirSlot) :
    (s.publish n).point i = if (s.point i).reservedOf n then { s.point i with state := .live } else s.point i :=
  State.updatePoints_point _ _ _

/-- Publication gives the name map one entry for each RESERVED record of the node (R13, R19). -/
theorem State.mem_publish_nameMap (s : State) (n : NodeSlot) (name : Text) (i : DirSlot) :
    (name, i) ∈ (s.publish n).nameMap ↔
      (name, i) ∈ s.nameMap ∨
        (s.point i).reservedOf n ∧ name = fullName (s.node n).stationText (s.point i).elementName := by
  simp only [State.publish, State.updatePoints_nameMap, State.setNameMap_nameMap, List.mem_append, List.mem_map,
    List.mem_filter, mem_entries, Bool.and_eq_true, beq_iff_eq, Prod.mk.injEq]
  refine or_congr_right ⟨?_, ?_⟩
  · rintro ⟨e, ⟨he, hres⟩, hname, rfl⟩
    rw [he] at hres hname
    exact ⟨hres, hname.symm⟩
  · rintro ⟨hres, rfl⟩
    exact ⟨(i, s.point i), ⟨rfl, hres⟩, rfl, rfl⟩

theorem State.publish_nameMap_nodup {s : State} (h : NamesLaw s) (n : NodeSlot) :
    ((s.publish n).nameMap.map Prod.snd).Nodup := by
  obtain ⟨hmem, hnodup⟩ := h
  simp only [State.publish, State.updatePoints_nameMap, State.setNameMap_nameMap, List.map_append, List.map_map]
  refine List.nodup_append.mpr ⟨hnodup, ?_, ?_⟩
  · have hslots : ((entries s.points).map Prod.fst).Nodup := by
      rw [entries_eq, List.map_map]
      exact (List.map_id _).symm ▸ List.nodup_finRange 512
    exact (List.filter_sublist.map Prod.fst).nodup hslots
  · intro i hi j hj hij
    obtain ⟨⟨name, i'⟩, hin, rfl⟩ := List.mem_map.mp hi
    obtain ⟨e, he, rfl⟩ := List.mem_map.mp hj
    obtain ⟨hpub, -⟩ := (hmem name i').mp hin
    obtain ⟨hent, hres⟩ := List.mem_filter.mp he
    simp only [Bool.and_eq_true, beq_iff_eq] at hres
    rw [(mem_entries _ _).mp hent] at hres
    have hij : i' = e.1 := hij
    rw [PointRecord.not_published_of_state (.inr (.inr (hij ▸ hres.1)))] at hpub
    cases hpub

theorem State.completeDescribing_node (s : State) (n m : NodeSlot) :
    (s.completeDescribing n).node m =
      if m = n then
        { s.node n with state := .online, incarnation := (s.node n).incarnation + 1, failures := 0 }
      else s.node m := State.setNode_node _ _ _ _

theorem State.completeDescribing_point (s : State) (n : NodeSlot) (i : DirSlot) :
    (s.completeDescribing n).point i =
      if (s.point i).reservedOf n then { s.point i with state := .live } else s.point i := State.publish_point s n i

theorem State.completeDescribing_nameMap (s : State) (n : NodeSlot) :
    (s.completeDescribing n).nameMap = (s.publish n).nameMap := rfl

/-- At the completion of describing the RESERVED records of the node become LIVE, under their names, as the node becomes ONLINE. -/
theorem DirectoryLaws.completeDescribing {s : State} (h : DirectoryLaws s) {n : NodeSlot}
    (hst : (s.node n).state = .describing) : DirectoryLaws (s.completeDescribing n) := by
  obtain ⟨hrecords, hnames⟩ := h
  have hnone : s.NoPublished n := hrecords.noPublished (by simp [NodeRecord.hasPoints, hst])
  have hstation (m : NodeSlot) : ((s.completeDescribing n).node m).stationText = (s.node m).stationText := by
    rw [State.completeDescribing_node]
    split
    · rename_i hm; rw [hm]; rfl
    · rfl
  refine ⟨(recordsLaw_iff _).mpr fun i => ?_, fun name i => ?_, State.publish_nameMap_nodup hnames n⟩
  · have hgoes := (recordsLaw_iff s).mp hrecords i
    rw [State.completeDescribing_point, State.completeDescribing_node]
    split
    · rename_i hres
      rw [if_pos hres.2]
      exact .inl rfl
    · rename_i hkept
      split
      · rename_i hn
        obtain hidle | hi := PointRecord.idle_or_reserved (hnone i hn)
        · exact hidle.goesWith _
        · exact absurd ⟨hi, hn⟩ hkept
      · exact hgoes
  · rw [State.completeDescribing_nameMap, State.mem_publish_nameMap, hnames.1, State.completeDescribing_point, hstation]
    by_cases hres : (s.point i).reservedOf n
    · obtain ⟨hreserved, hn⟩ := hres
      rw [if_pos ⟨hreserved, hn⟩]
      simp [PointRecord.reservedOf, hreserved, hn, PointRecord.published]
    · rw [if_neg hres]
      simp [hres]

/-! ## Loss and return (R14, R46, R47) -/

theorem State.loseNodes_node (s : State) (sel : NodeSlot → Bool) (cause : LostCause) (n : NodeSlot) :
    (s.loseNodes sel cause).node n = if sel n then (s.node n).lose cause else s.node n :=
  State.mapNodes_node _ _ _

theorem State.loseNodes_point (s : State) (sel : NodeSlot → Bool) (cause : LostCause) (i : DirSlot) :
    (s.loseNodes sel cause).point i =
      if (s.point i).state = .live ∧ sel (s.point i).nodeSlot = true then report (s.point i) (s.point i).lose
      else s.point i := by
  have h : (s.loseNodes sel cause).point i =
      report (s.point i)
        (if (s.point i).state == .live && sel (s.point i).nodeSlot then (s.point i).lose else s.point i) :=
    State.event_point _ _ _
  rw [h]
  simp only [Bool.and_eq_true, beq_iff_eq]
  split
  · rfl
  · exact report_self _

/-- What the loss of its node leaves of a record's place in the directory. -/
theorem PointRecord.lose_entry (r : PointRecord) :
    r.lose.state = .orphaned ∧ r.lose.nodeSlot = r.nodeSlot ∧ r.lose.elementName = r.elementName :=
  have h := PointRecord.ValuesOnly.lose r
  ⟨h.state, h.nodeSlot, h.elementName⟩

/-- Some nodes that are ONLINE or RESYNC become LOST, and their LIVE records ORPHANED, under their names. -/
theorem DirectoryLaws.of_loss {s t : State} (h : DirectoryLaws s) {sel : NodeSlot → Bool}
    (hsel : ∀ n, sel n = true → (s.node n).state = .online ∨ (s.node n).state = .resync) (hmap : t.nameMap = s.nameMap)
    (hstation : ∀ n, (t.node n).stationName = (s.node n).stationName)
    (hstate : ∀ n, (t.node n).state = if sel n then .lost else (s.node n).state)
    (hlost : ∀ i, (s.point i).state = .live → sel (s.point i).nodeSlot = true →
      (t.point i).state = .orphaned ∧ (t.point i).nodeSlot = (s.point i).nodeSlot ∧
        (t.point i).elementName = (s.point i).elementName)
    (hkept : ∀ i, ¬((s.point i).state = .live ∧ sel (s.point i).nodeSlot = true) → t.point i = s.point i) :
    DirectoryLaws t := by
  have hentry (i : DirSlot) : (t.point i).nodeSlot = (s.point i).nodeSlot ∧
      (t.point i).elementName = (s.point i).elementName ∧ (t.point i).published = (s.point i).published := by
    by_cases hi : (s.point i).state = .live ∧ sel (s.point i).nodeSlot = true
    · obtain ⟨horphaned, hslot, helement⟩ := hlost i hi.1 hi.2
      refine ⟨hslot, helement, ?_⟩
      rw [(PointRecord.published_iff _).mpr (.inr horphaned), (PointRecord.published_iff _).mpr (.inl hi.1)]
    · rw [hkept i hi]; exact ⟨rfl, rfl, rfl⟩
  refine h.of_passage hmap hstation (fun i => (hentry i).1) (fun i => (hentry i).2.1) (fun i => (hentry i).2.2)
    fun i hgoes => ?_
  rw [hstate]
  by_cases hi : (s.point i).state = .live ∧ sel (s.point i).nodeSlot = true
  · rw [(hlost i hi.1 hi.2).1, if_pos hi.2]; rfl
  · rw [hkept i hi]
    split
    · rename_i hn
      obtain hidle | hlive := PointRecord.idle_or_live hgoes (hsel _ hn)
      · exact hidle.goesWith _
      · exact absurd ⟨hlive, hn⟩ hi
    · exact hgoes

theorem DirectoryLaws.loseNodes {s : State} (h : DirectoryLaws s) {sel : NodeSlot → Bool} (cause : LostCause)
    (hsel : ∀ n, sel n = true → (s.node n).state = .online ∨ (s.node n).state = .resync) :
    DirectoryLaws (s.loseNodes sel cause) := by
  refine h.of_loss hsel rfl (fun n => ?_) (fun n => ?_) (fun i hlive hn => ?_) fun i hi => ?_
  · rw [State.loseNodes_node]; split <;> rfl
  · rw [State.loseNodes_node]; split <;> rfl
  · rw [State.loseNodes_point, if_pos ⟨hlive, hn⟩, report_state, report_nodeSlot, report_elementName]
    exact PointRecord.lose_entry _
  · rw [State.loseNodes_point, if_neg hi]

end Sys2Proof.Machine
end

section
/-! The laws of point states and of the name map (R6, R19): every command keeps them. -/

namespace Sys2Proof.Machine

/-! ## The node table at completions -/

/-- A node without LIVE or ORPHANED records is refused: its reservations are released (R12, R41). -/
theorem DirectoryLaws.refuseNode {s : State} (h : DirectoryLaws s) {n : NodeSlot} (hpub : s.NoPublished n) (r : NodeRecord)
    (why : RefuseReason) : DirectoryLaws (s.refuseNode n r why) :=
  (h.releaseReservations n).setNode (hpub.releaseReservations n) (.inl (s.noReserved_releaseReservations n))

theorem DirectoryLaws.newcomer {s : State} (h : DirectoryLaws s) {l : LinkId} {a : NodeAddr}
    (hpub : s.NoPublished (nodeSlotOf l a)) (id : Option Identity) : DirectoryLaws (s.newcomer l a id) := by
  unfold State.newcomer
  dsimp only
  split
  · exact h.refuseNode hpub _ _
  · split
    · exact h.refuseNode hpub _ _
    · rename_i id _ name _
      split
      · exact h.refuseNode hpub _ _
      · have hentered : DirectoryLaws
            ((s.setNode (nodeSlotOf l a) ((s.node (nodeSlotOf l a)).enterDescribing id name)).clearSeqBit l a) :=
          (State.SameDirectory.setLink _ _ _).laws (h.setNode hpub (.inr rfl))
        split
        · exact hentered.completeDescribing (by simp [State.clearSeqBit, NodeRecord.enterDescribing])
        · exact hentered

/-- The node takes a PROBE's completion when it is VACANT, RESYNC or LOST (R29). -/
theorem NodeRecord.takes_probe {r : NodeRecord} {payload : List Byte} (h : r.takes .probe payload = true) :
    r.state = .vacant ∨ r.state = .resync ∨ r.state = .lost := by
  simp only [NodeRecord.takes, Bool.or_eq_true, Bool.and_eq_true, beq_iff_eq] at h
  obtain (⟨hv, -⟩ | hr) | hl := h
  · exact .inl hv
  · exact .inr (.inl hr)
  · exact .inr (.inr hl)

/-- A LOST node returns to ONLINE, and its ORPHANED records to LIVE (R14, R47). -/
theorem DirectoryLaws.lostReturns {s : State} (h : DirectoryLaws s) {l : LinkId} {a : NodeAddr}
    (hst : (s.nodeAt l a).state = .lost) :
    DirectoryLaws ((s.returnNode l a).event fun _ r =>
      if r.state = .orphaned ∧ r.nodeSlot = nodeSlotOf l a then { r with state := .live } else r) := by
  have hnode (m : NodeSlot) : (s.returnNode l a).node m =
      if m = nodeSlotOf l a then
        { s.nodeAt l a with
          state := .online, incarnation := (s.nodeAt l a).incarnation + 1, failures := 0, lostCause := none
          refuseReason := none }
      else s.node m := by
    simp [State.returnNode, State.clearSeqBit, State.nodeAt]
  have hpoint (i : DirSlot) : (s.returnNode l a).point i = s.point i := by simp [State.returnNode, State.clearSeqBit]
  refine h.of_passage (by simp [State.returnNode, State.clearSeqBit]) (fun m => ?_) (fun i => ?_) (fun i => ?_)
    (fun i => ?_) fun i hgoes => ?_
  · rw [State.event_node, hnode]
    split
    · rename_i hm; rw [hm]; rfl
    · rfl
  · rw [State.event_point, report_nodeSlot, hpoint]; split <;> rfl
  · rw [State.event_point, report_elementName, hpoint]; split <;> rfl
  · rw [State.event_point, hpoint]
    split
    · rename_i hi
      rw [(PointRecord.published_iff _).mpr (.inl (report_state _ _)), (PointRecord.published_iff _).mpr (.inr hi.1)]
    · rw [report_self]
  · rw [State.event_point, State.event_node, hpoint, hnode, report_state]
    split
    · rename_i hi
      rw [if_pos hi.2]
      exact .inl rfl
    · rename_i hkept
      split
      · rename_i hn
        have hlost : (s.node (s.point i).nodeSlot).state = .lost := hn ▸ hst
        rw [hlost] at hgoes
        obtain hidle | hi := PointRecord.idle_or_orphaned hgoes
        · exact hidle.goesWith _
        · exact absurd ⟨hi, hn⟩ hkept
      · exact hgoes

theorem DirectoryLaws.probeAnswered {s : State} (h : DirectoryLaws s) {l : LinkId} {a : NodeAddr}
    (hst : (s.nodeAt l a).state = .vacant ∨ (s.nodeAt l a).state = .resync ∨ (s.nodeAt l a).state = .lost)
    (ans : Answer) : DirectoryLaws (s.probeAnswered l a ans) := by
  unfold State.probeAnswered
  dsimp only
  have hst1 : ((s.setNode (nodeSlotOf l a) ((s.node (nodeSlotOf l a)).withStatus .probe ans)).nodeAt l a).state =
      (s.nodeAt l a).state := by simp [State.nodeAt, NodeRecord.withStatus]
  have h1 : DirectoryLaws (s.setNode (nodeSlotOf l a) ((s.node (nodeSlotOf l a)).withStatus .probe ans)) :=
    h.setNode_same rfl rfl
  generalize s.setNode (nodeSlotOf l a) ((s.node (nodeSlotOf l a)).withStatus .probe ans) = s1 at h1 hst1
  split
  · rename_i hvacant
    have hvacant : (s1.node (nodeSlotOf l a)).state = .vacant := hst1.trans hvacant
    exact h1.newcomer (h1.1.noPublished (by simp [NodeRecord.hasPoints, hvacant])) _
  · rename_i hvacant
    split
    · split
      · rename_i hresync
        have hresync : (s1.node (nodeSlotOf l a)).state = .resync := hst1.trans hresync
        have hback : DirectoryLaws (s1.returnNode l a) :=
          (State.SameDirectory.setLink _ _ _).laws (h1.setNode_exchanging rfl (.inr hresync) (.inl rfl))
        refine (State.SameDirectory.event fun i r => ?_).laws hback
        split
        · exact .resyncReturn r
        · exact .refl r
      · rename_i hresync
        split
        · exact h1.lostReturns (hst1.trans ((hst.resolve_left hvacant).resolve_left hresync))
        · exact h1.setNode_same rfl rfl
    · exact (h1.retireNode _).newcomer (State.noPublished_retireNode _ _) _

theorem DirectoryLaws.probeFailed {s : State} (h : DirectoryLaws s) (l : LinkId) (a : NodeAddr) :
    DirectoryLaws (s.probeFailed l a) := by
  unfold State.probeFailed
  dsimp only
  split
  · rename_i hresync
    split
    · refine h.loseNodes _ fun n hn => .inr ?_
      rw [eq_of_beq hn]; exact hresync
    · exact h.setNode_same rfl rfl
  · exact h

theorem DirectoryLaws.advanceCursor {s : State} (h : DirectoryLaws s) {n : NodeSlot}
    (hst : (s.node n).state = .describing) : DirectoryLaws (s.advanceCursor n) := by
  unfold State.advanceCursor
  dsimp only
  have h1 : DirectoryLaws (s.setNode n { s.node n with cursor := (s.node n).cursor + 1 }) :=
    h.setNode_same rfl rfl
  split
  · exact h1.completeDescribing (by simpa using hst)
  · exact h1

/-- A DESCRIBING node has no LIVE or ORPHANED record (R6). -/
theorem DirectoryLaws.noPublished_describing {s : State} (h : DirectoryLaws s) {n : NodeSlot}
    (hst : (s.node n).state = .describing) : s.NoPublished n := h.1.noPublished (by simp [NodeRecord.hasPoints, hst])

theorem NodeRecord.pack_state (r : NodeRecord) (d : Direction) (width : Nat) : (r.pack d width).state = r.state := by
  cases d <;> rfl

theorem NodeRecord.pack_stationName (r : NodeRecord) (d : Direction) (width : Nat) :
    (r.pack d width).stationName = r.stationName := by cases d <;> rfl

theorem DirectoryLaws.placeElement {s : State} (h : DirectoryLaws s) {n : NodeSlot}
    (hst : (s.node n).state = .describing) (d : Descriptor) : DirectoryLaws (s.placeElement n d) := by
  have hpub := h.noPublished_describing hst
  have h1 : DirectoryLaws (s.setNode n ((s.node n).pack d.direction d.width)) :=
    h.setNode_same (NodeRecord.pack_state _ _ _) (NodeRecord.pack_stationName _ _ _)
  have hst1 : ((s.setNode n ((s.node n).pack d.direction d.width)).node n).state = .describing := by
    simpa [NodeRecord.pack_state] using hst
  unfold State.placeElement
  dsimp only
  split
  · exact h.refuseNode hpub _ _
  · split
    · exact h1.advanceCursor hst1
    · split
      · exact h.refuseNode hpub _ _
      · rename_i i hi
        have hfree : (s.point i).state = .free := eq_of_beq ((lowest_eq_some _ _ _).mp hi).1
        exact (h1.reserve hst1 hfree).advanceCursor hst1

theorem DirectoryLaws.describeAnswered {s : State} (h : DirectoryLaws s) {n : NodeSlot}
    (hst : (s.node n).state = .describing) (ans : Answer) : DirectoryLaws (s.describeAnswered n ans) := by
  have hpub := h.noPublished_describing hst
  unfold State.describeAnswered
  dsimp only
  generalize parseDescriptor ans.payload = parsed
  split
  · exact (h.releaseReservations n).setNode_same rfl rfl
  · cases parsed with
    | none => exact h.refuseNode hpub _ _
    | some d =>
      dsimp only
      split
      · have h1 : DirectoryLaws (s.setNode n ((s.node n).answered .describe ans)) := h.setNode_same rfl rfl
        have hst1 : ((s.setNode n ((s.node n).answered .describe ans)).node n).state = .describing := by
          simpa [NodeRecord.answered, NodeRecord.withStatus] using hst
        exact h1.placeElement hst1 d
      · exact h.refuseNode hpub _ _

theorem DirectoryLaws.describeFailed {s : State} (h : DirectoryLaws s) (l : LinkId) {n : NodeSlot}
    (hst : (s.node n).state = .describing) : DirectoryLaws (s.describeFailed l n) := by
  unfold State.describeFailed
  dsimp only
  split
  · exact (h.releaseReservations n).setNode ((h.noPublished_describing hst).releaseReservations n)
      (.inl (s.noReserved_releaseReservations n))
  · exact h.setNode_same rfl rfl

theorem DirectoryLaws.enterResync {s : State} (h : DirectoryLaws s) {n : NodeSlot} (hst : (s.node n).state = .online)
    {r : NodeRecord} (hname : r.stationName = (s.node n).stationName) : DirectoryLaws (s.enterResync n r) := by
  refine (State.SameDirectory.updatePoints fun i p => .inl ?_).laws (h.setNode_exchanging hname (.inl hst) (.inr rfl))
  split <;> exact ⟨rfl, rfl, rfl⟩

theorem DirectoryLaws.exchangeAnswered {s : State} (h : DirectoryLaws s) {n : NodeSlot}
    (hst : (s.node n).state = .online) (ans : Answer) : DirectoryLaws (s.exchangeAnswered n ans) := by
  unfold State.exchangeAnswered
  dsimp only
  split
  · exact h.enterResync hst rfl
  · refine (State.SameDirectory.event fun i p => ?_).laws (h.setNode_same rfl rfl)
    split
    · exact .exchanged p ans
    · exact .refl p

theorem DirectoryLaws.clearHoldAnswered {s : State} (h : DirectoryLaws s) {n : NodeSlot}
    (hst : (s.node n).state = .online) (ans : Answer) : DirectoryLaws (s.clearHoldAnswered n ans) := by
  unfold State.clearHoldAnswered
  dsimp only
  split
  · exact h.enterResync hst rfl
  · refine (State.SameDirectory.event fun i p => ?_).laws (h.setNode_same rfl rfl)
    split
    · exact .holdCleared p
    · exact .refl p

/-- A failed EXCHANGE or CLEAR_HOLD counts a failure or loses the node, whose LIVE records then become ORPHANED at the same event (R42,
R46, R94, R95). -/
theorem DirectoryLaws.exchangeFailed {s : State} (h : DirectoryLaws s) (l : LinkId) {n : NodeSlot}
    (hst : (s.node n).state = .online) : DirectoryLaws (s.exchangeFailed l n) := by
  unfold State.exchangeFailed
  dsimp only
  by_cases hlost : (s.link l).settings.lossLimit ≤ (s.node n).failures + 1
  · simp only [hlost, decide_true, if_true]
    have hpoint (i : DirSlot) : (((s.setNode n (NodeRecord.lose { s.node n with failures := (s.node n).failures + 1 }
        .failed)).event fun _ p => if p.liveOf n then p.exchangeFailed.lose else p).point i) =
          report (s.point i) (if (s.point i).liveOf n then (s.point i).exchangeFailed.lose else s.point i) :=
      State.event_point _ _ _
    refine h.of_loss (sel := fun m => m == n) (fun m hm => .inl (eq_of_beq hm ▸ hst)) rfl (fun m => ?_) (fun m => ?_)
      (fun i hlive hn => ?_) fun i hi => ?_
    · rw [State.event_node, State.setNode_node]
      split
      · rename_i hm; rw [hm]; rfl
      · rfl
    · rw [State.event_node, State.setNode_node]
      simp only [beq_iff_eq]
      split <;> rfl
    · obtain ⟨horphaned, hslot, helement⟩ := PointRecord.lose_entry (s.point i).exchangeFailed
      have hfailed := PointRecord.ValuesOnly.exchangeFailed (s.point i)
      have hof : (s.point i).liveOf n = true := by simp [PointRecord.liveOf, hlive, eq_of_beq hn]
      rw [hpoint, if_pos hof, report_state, report_nodeSlot, report_elementName]
      exact ⟨horphaned, hslot.trans hfailed.nodeSlot, helement.trans hfailed.elementName⟩
    · have hof : ¬(s.point i).liveOf n = true := fun hof => hi (by simpa [PointRecord.liveOf] using hof)
      rw [hpoint, if_neg hof, report_self]
  · simp only [hlost, decide_false, Bool.false_eq_true, if_false]
    refine (State.SameDirectory.event fun i p => ?_).laws (h.setNode_same rfl rfl)
    split
    · exact .exchangeFailed p
    · exact .refl p

/-- A completion that the node expects keeps the laws of the directory (R29). -/
theorem DirectoryLaws.takeCompletion {s : State} (h : DirectoryLaws s) {l : LinkId} {a : NodeAddr} {kind : CallKind}
    {payload : List Byte} (htakes : (s.nodeAt l a).takes kind payload = true) (ans : Option Answer) :
    DirectoryLaws (s.takeCompletion l a kind ans) := by
  unfold State.takeCompletion
  cases kind with
  | probe =>
    cases ans with
    | none => exact h.probeFailed l a
    | some ans => exact h.probeAnswered (NodeRecord.takes_probe htakes) ans
  | describe =>
    have hst : (s.node (nodeSlotOf l a)).state = .describing := by
      simp only [NodeRecord.takes, Bool.and_eq_true, beq_iff_eq] at htakes
      exact htakes.1
    cases ans with
    | none => exact h.describeFailed l hst
    | some ans => exact h.describeAnswered hst ans
  | exchange =>
    have hst : (s.node (nodeSlotOf l a)).state = .online := eq_of_beq htakes
    cases ans with
    | none => exact h.exchangeFailed l hst
    | some ans => exact h.exchangeAnswered hst ans
  | clearHold =>
    have hst : (s.node (nodeSlotOf l a)).state = .online := eq_of_beq htakes
    cases ans with
    | none => exact h.exchangeFailed l hst
    | some ans => exact h.clearHoldAnswered hst ans
  | park => exact h.setNode_same rfl rfl

theorem State.SameDirectory.discardCompletion (s : State) (n : NodeSlot) (kind : CallKind) :
    s.SameDirectory (s.discardCompletion n kind) := by
  unfold State.discardCompletion
  split
  · refine .updatePoints fun i p => .inl ?_
    split <;> exact ⟨rfl, rfl, rfl⟩
  · exact .refl s

/-! ## The link engines -/

theorem State.SameDirectory.settleCycle (s : State) (l : LinkId) : s.SameDirectory (s.settleCycle l) := .setLink _ _ _

theorem State.SameDirectory.startCycle (s : State) (l : LinkId) : s.SameDirectory (s.startCycle l) :=
  (setLink _ _ _).trans (settleCycle _ _)

theorem State.SameDirectory.proceed (s : State) (l : LinkId) : s.SameDirectory (s.proceed l) := by
  unfold State.proceed
  split
  · split
    · exact .refl s
    · split
      · exact .startCycle _ _
      · exact .settleCycle _ _
  · exact .refl s

theorem State.SameDirectory.cycleExpiry (s : State) (l : LinkId) : s.SameDirectory (s.cycleExpiry l) := by
  unfold State.cycleExpiry
  dsimp only
  split
  · exact .startCycle _ _
  · split
    · exact .setLink _ _ _
    · exact (setLink s _ _).trans (proceed _ _)

theorem DirectoryLaws.completeCall {s : State} (h : DirectoryLaws s) (l : LinkId) (c : Call) (a : NodeAddr)
    (ans : Option Answer) : DirectoryLaws (s.completeCall l c a ans) := by
  unfold State.completeCall
  dsimp only
  refine (State.SameDirectory.proceed _ _).laws ?_
  have h1 : DirectoryLaws (s.setLink l ((s.link l).endCall c ans)) := (State.SameDirectory.setLink _ _ _).laws h
  split
  · rename_i htakes
    exact h1.takeCompletion (by rw [State.nodeAt, State.setLink_node]; exact htakes) ans
  · exact (State.SameDirectory.discardCompletion _ _ _).laws h1

theorem DirectoryLaws.attemptFails {s : State} (h : DirectoryLaws s) (l : LinkId) : DirectoryLaws (s.attemptFails l) := by
  unfold State.attemptFails
  split
  · exact h
  · split
    · exact h.completeCall _ _ _ _
    · exact (State.SameDirectory.setLink _ _ _).laws h

theorem State.SameDirectory.buildExchange (s : State) (l : LinkId) (a : NodeAddr) :
    s.SameDirectory (s.buildExchange l a) := by
  unfold State.buildExchange
  dsimp only
  split
  · exact .setLink _ _ _
  · refine (updatePoints fun i r => .inl ?_).trans (setLink _ _ _)
    split <;> exact ⟨rfl, rfl, rfl⟩

theorem State.SameDirectory.buildService (s : State) (l : LinkId) (c : ServiceClass) (a : NodeAddr) :
    s.SameDirectory (s.buildService l c a) := by
  unfold State.buildService
  cases c <;> exact (setLink _ _ _).trans (setLink _ _ _)

theorem State.SameDirectory.buildNext (s : State) (l : LinkId) : s.SameDirectory (s.buildNext l) := by
  unfold State.buildNext
  split
  · exact (setLink _ _ _).trans (buildExchange _ _ _)
  · split
    · split
      · exact (setLink _ _ _).trans (buildService _ _ _ _)
      · exact proceed _ _
    · exact proceed _ _

theorem State.SameDirectory.callBuild (s : State) (l : LinkId) : s.SameDirectory (s.callBuild l) := by
  unfold State.callBuild
  dsimp only
  split
  · exact .refl s
  · split
    · exact .refl s
    · split
      · exact .refl s
      · exact .buildNext _ _
    · exact .setLink _ _ _

theorem State.exchangingOn_state {s : State} {l : LinkId} {n : NodeSlot} (h : s.exchangingOn l n = true) :
    (s.node n).state = .online ∨ (s.node n).state = .resync := by
  simp only [State.exchangingOn, Bool.and_eq_true, Bool.or_eq_true, beq_iff_eq] at h
  exact h.2

theorem State.describingOn_state {s : State} {l : LinkId} {n : NodeSlot} (h : s.describingOn l n = true) :
    (s.node n).state = .describing := by
  simp only [State.describingOn, Bool.and_eq_true, beq_iff_eq] at h
  exact h.2

/-- The end of a link stop: exchanging nodes are LOST, DESCRIBING ones VACANT without their reservations (R48). -/
theorem DirectoryLaws.stopNodes {s : State} (h : DirectoryLaws s) (l : LinkId) : DirectoryLaws (s.stopNodes l) := by
  unfold State.stopNodes
  dsimp only
  have h1 : DirectoryLaws (s.loseNodes (s.exchangingOn l) .stopped) := h.loseNodes _ fun n => State.exchangingOn_state
  have hnode1 {n : NodeSlot} (hn : s.describingOn l n = true) :
      ((s.loseNodes (s.exchangingOn l) .stopped).node n).state = .describing := by
    have hst := State.describingOn_state hn
    rw [State.loseNodes_node, if_neg fun hx => ?_]
    · exact hst
    · obtain hx | hx := State.exchangingOn_state hx <;> simp [hst] at hx
  generalize s.loseNodes (s.exchangingOn l) .stopped = s1 at h1 hnode1
  have h2 := h1.freeReserved (fun r => r.state = .reserved ∧ s.describingOn l r.nodeSlot = true) fun _ => And.left
  refine h2.of_nodes (fun _ => rfl) rfl fun n => ?_
  rw [State.mapNodes_node, State.updatePoints_node]
  by_cases hn : s.describingOn l n = true
  · refine .inr ⟨h2.noPublished_describing (hnode1 hn), .inl fun i => ?_⟩
    rw [State.updatePoints_point]
    split
    · intro _; exact nofun
    · rename_i hkept
      exact fun hi hst => hkept ⟨hst, hi ▸ hn⟩
  · refine .inl ?_
    simp only [hn]
    split <;> exact ⟨rfl, rfl⟩

/-! ## The node requests -/

/-- A node that has left nothing in the directory may take any record. -/
theorem DirectoryLaws.withdrawNode {s : State} (h : DirectoryLaws s) (n : NodeSlot) (r : NodeRecord) :
    DirectoryLaws ((s.withdrawNode n).setNode n r) := by
  unfold State.withdrawNode
  split
  · rename_i hpoints
    have hst : ((s.retireNode n).node n).state ≠ .describing := by
      rw [State.retireNode_node]
      exact fun hst => by simp [NodeRecord.hasPoints, hst] at hpoints
    exact (h.retireNode n).setNode (s.noPublished_retireNode n) (.inl ((h.retireNode n).1.noReserved hst))
  · rename_i hpoints
    have hpub : s.NoPublished n := h.1.noPublished (by simpa using hpoints)
    split
    · exact (h.releaseReservations n).setNode (hpub.releaseReservations n) (.inl (s.noReserved_releaseReservations n))
    · rename_i hst
      exact h.setNode hpub (.inl (h.1.noReserved hst))

/-- A REFUSED or PARKED node has no record in use, so that it may take any record (R6). -/
theorem DirectoryLaws.setNode_unused {s : State} (h : DirectoryLaws s) {n : NodeSlot}
    (hst : (s.node n).state = .refused ∨ (s.node n).state = .parked) (r : NodeRecord) : DirectoryLaws (s.setNode n r) := by
  refine h.setNode (h.1.noPublished ?_) (.inl (h.1.noReserved fun hd => ?_))
  · obtain hst | hst := hst <;> simp [NodeRecord.hasPoints, hst]
  · simp [hd] at hst

/-- A node takes a new station name, and the name map the new full names of its records (R20, R49). -/
theorem DirectoryLaws.rename {s : State} (h : DirectoryLaws s) (n : NodeSlot) (station : Text) :
    DirectoryLaws ((s.rekey n station).setNode n { s.node n with stationName := some station }) := by
  obtain ⟨hrecords, hmem, hnodup⟩ := h
  refine ⟨(recordsLaw_iff _).mpr fun i => ?_, fun name i => ?_, ?_⟩
  · have hgoes := (recordsLaw_iff s).mp hrecords i
    rw [State.setNode_node]
    split
    · rename_i hn
      rw [show (s.point i).nodeSlot = n from hn] at hgoes
      exact hgoes
    · exact hgoes
  · have hpoint : ((s.rekey n station).setNode n { s.node n with stationName := some station }).point i = s.point i := rfl
    have hmap : ((s.rekey n station).setNode n { s.node n with stationName := some station }).nameMap =
        s.nameMap.map fun e =>
          if (s.point e.2).publishedOf n then (fullName station (s.point e.2).elementName, e.2) else e := rfl
    rw [hpoint, hmap, List.mem_map, State.setNode_node]
    by_cases hi : (s.point i).nodeSlot = n
    · rw [if_pos hi]
      constructor
      · rintro ⟨⟨old, j⟩, hin, heq⟩
        obtain ⟨hpub, -⟩ := (hmem old j).mp hin
        by_cases hj : (s.point j).publishedOf n = true
        · simp only [hj, if_true, Prod.mk.injEq] at heq
          obtain ⟨rfl, rfl⟩ := heq
          exact ⟨hpub, rfl⟩
        · simp only [hj, Bool.false_eq_true, if_false, Prod.mk.injEq] at heq
          obtain ⟨rfl, rfl⟩ := heq
          exact absurd ((PointRecord.publishedOf_iff _ _).mpr ⟨hpub, hi⟩) hj
      · rintro ⟨hpub, rfl⟩
        refine ⟨(s.fullNameOf i, i), (hmem _ _).mpr ⟨hpub, rfl⟩, ?_⟩
        rw [if_pos ((PointRecord.publishedOf_iff _ _).mpr ⟨hpub, hi⟩)]
        rfl
    · rw [if_neg hi]
      have hnot : (s.point i).publishedOf n ≠ true := fun hp => hi ((PointRecord.publishedOf_iff _ _).mp hp).2
      refine Iff.trans ⟨?_, fun hin => ⟨(name, i), hin, if_neg hnot⟩⟩ (hmem name i)
      rintro ⟨⟨old, j⟩, hin, heq⟩
      by_cases hj : (s.point j).publishedOf n = true
      · simp only [hj, if_true, Prod.mk.injEq] at heq
        obtain ⟨-, rfl⟩ := heq
        exact absurd hj hnot
      · simp only [hj, Bool.false_eq_true, if_false, Prod.mk.injEq] at heq
        obtain ⟨rfl, rfl⟩ := heq
        exact hin
  · have hslots : ((s.rekey n station).nameMap.map Prod.snd) = s.nameMap.map Prod.snd := by
      rw [State.rekey, State.setNameMap_nameMap, List.map_map]
      refine List.map_congr_left fun e _ => ?_
      simp only [Function.comp_apply]
      split <;> rfl
    exact hslots.symm ▸ hnodup

end Sys2Proof.Machine
end

section
/-! The laws of point states and of the name map (R6, R19), continued: the requests, and every command. -/

namespace Sys2Proof.Machine

/-! ## Requests that leave the directory alone -/

/-- A port leaves a record's sets: the record stays where it is, or passes from RETIRED to FREE (R17). -/
theorem PointRecord.dropWatcher_place (r : PointRecord) (p : PortId) :
    ((r.dropWatcher p).state = r.state ∧ (r.dropWatcher p).nodeSlot = r.nodeSlot ∧
      (r.dropWatcher p).elementName = r.elementName) ∨ (r.idle ∧ (r.dropWatcher p).idle) := by
  unfold PointRecord.dropWatcher
  dsimp only
  split
  · rename_i h; exact .inr ⟨.inr h.1, .inl rfl⟩
  · exact .inl ⟨rfl, rfl, rfl⟩

namespace State.SameDirectory

/-- An event that changes the values of one record alone. -/
theorem eventAt {s : State} (i : DirSlot) {f : PointRecord → PointRecord} (h : ∀ r : PointRecord, r.ValuesOnly (f r)) :
    s.SameDirectory (s.event fun j r => if j = i then f r else r) :=
  event fun j r => by
    split
    · exact h r
    · exact .refl r

/-- A change of one record that keeps its place in the directory. -/
theorem updatePoint {s : State} {i : DirSlot} {f : PointRecord → PointRecord}
    (h : ∀ r, ((f r).state = r.state ∧ (f r).nodeSlot = r.nodeSlot ∧ (f r).elementName = r.elementName) ∨
      (r.idle ∧ (f r).idle)) : s.SameDirectory (s.updatePoint i f) :=
  updatePoints fun j r => by
    split
    · exact h r
    · exact .inl ⟨rfl, rfl, rfl⟩

theorem releaseMembers (s : State) (members : List DirSlot) : s.SameDirectory (s.releaseMembers members) :=
  event fun i r => by
    split
    · exact .release r
    · exact .refl r

theorem clockTick (s : State) : s.SameDirectory s.clockTick := by
  have hleases : s.SameDirectory ((s.releaseMembers s.expiringMembers).mapLeases fun _ r => r.tick) :=
    (releaseMembers s _).trans (mapLeases _ _)
  exact (hleases.trans (setLink _ .l0 _)).trans (setLink _ .l1 _)

theorem writePoints (p : PortId) (a : (Nat × Nat) × List (Nat × Word32)) (s : State) :
    s.SameDirectory (writePoints p a s).1 := by
  unfold Machine.writePoints
  split
  · exact .refl s
  split
  · exact .refl s
  split
  · exact .refl s
  split
  · exact .refl s
  dsimp only
  split
  · exact .refl s
  split
  · exact .refl s
  split
  · exact .refl s
  split
  · exact .refl s
  split
  · exact .refl s
  refine .event fun i r => ?_
  split
  · exact .setDemand r _
  · exact .refl r

theorem setSafePoint (p : PortId) (a : (Nat × Nat) × Nat × Word32) (s : State) :
    s.SameDirectory (setSafePoint p a s).1 := by
  unfold Machine.setSafePoint
  split
  · exact .refl s
  split
  · exact .refl s
  split
  · exact .refl s
  split
  · exact .refl s
  split
  · exact .refl s
  split
  · exact .refl s
  exact .eventAt _ fun r => .setSafe r _

theorem substitutePoint (p : PortId) (a : Nat × Word32) (s : State) : s.SameDirectory (substitutePoint p a s).1 := by
  unfold Machine.substitutePoint
  split
  · exact .refl s
  split
  · exact .refl s
  split
  · exact .refl s
  exact .eventAt _ fun r => .substituteBy r _ _

theorem unsubstitutePoint (p : PortId) (h : Nat) (s : State) : s.SameDirectory (unsubstitutePoint p h s).1 := by
  unfold Machine.unsubstitutePoint
  split
  · exact .refl s
  split
  · exact .refl s
  split
  · exact .refl s
  exact .eventAt _ fun r => .endSubstitution r

theorem openLease (p : PortId) (term : Nat) (s : State) : s.SameDirectory (openLease p term s).1 := by
  unfold Machine.openLease
  split
  · exact .refl s
  split
  · exact .refl s
  exact .setLease _ _ _

theorem claimLease (p : PortId) (a : (Nat × Nat) × List Nat) (s : State) : s.SameDirectory (claimLease p a s).1 := by
  unfold Machine.claimLease
  split
  · exact .refl s
  split
  · exact .refl s
  split
  · exact .refl s
  split
  · exact .refl s
  split
  · exact .refl s
  split
  · exact .refl s
  split
  · exact .refl s
  refine (event fun i r => ?_).trans (setLease _ _ _)
  split
  · exact ⟨rfl, rfl, rfl, rfl, rfl⟩
  · exact .refl r

theorem releaseLease (p : PortId) (a : (Nat × Nat) × List Nat) (s : State) : s.SameDirectory (releaseLease p a s).1 := by
  unfold Machine.releaseLease
  split
  · exact .refl s
  split
  · exact .refl s
  exact (releaseMembers _ _).trans (setLease _ _ _)

theorem renewLease (p : PortId) (h : Nat × Nat) (s : State) : s.SameDirectory (renewLease p h s).1 := by
  unfold Machine.renewLease
  dsimp only
  split
  · exact .refl s
  split
  · exact .refl s
  exact .setLease _ _ _

theorem closeLeaseRule (p : PortId) (h : Nat × Nat) (s : State) : s.SameDirectory (closeLeaseRule p h s).1 := by
  unfold Machine.closeLeaseRule
  split
  · exact .refl s
  exact (releaseMembers _ _).trans (setLease _ _ _)

theorem revokeLease (p : PortId) (h : Nat × Nat) (s : State) : s.SameDirectory (revokeLease p h s).1 := by
  unfold Machine.revokeLease
  split
  · exact .refl s
  split
  · exact .refl s
  exact (releaseMembers _ _).trans (setLease _ _ _)

theorem eachEntry {α : Type} {act : State → α → State × Result} (h : ∀ (s : State) a, s.SameDirectory (act s a).1) (s : State)
    (as : List α) : s.SameDirectory (eachEntry act s as).1 := by
  induction as generalizing s with
  | nil => exact .refl s
  | cons a rest ih => exact (h s a).trans (ih _)

theorem entriesRequest {α : Type} {act : PortId → State → α → State × Result}
    (h : ∀ p (s : State) a, s.SameDirectory (act p s a).1) (p : PortId) (as : List α) (s : State) :
    s.SameDirectory (entriesRequest act p as s).1 := by
  unfold Machine.entriesRequest
  split
  · exact .refl s
  · exact .eachEntry (h p) s as

theorem watchEntry (p : PortId) (s : State) (h : Nat) : s.SameDirectory (watchEntry p s h).1 := by
  unfold Machine.watchEntry
  split
  · exact .refl s
  · exact .updatePoint fun r => .inl ⟨rfl, rfl, rfl⟩

theorem unwatchEntry (p : PortId) (s : State) (h : Nat) : s.SameDirectory (unwatchEntry p s h).1 := by
  unfold Machine.unwatchEntry
  split
  · exact .refl s
  · exact .updatePoint fun r => r.dropWatcher_place p

theorem ackEntry (p : PortId) (s : State) (a : Nat × BitVec 16) : s.SameDirectory (ackEntry p s a).1 := by
  unfold Machine.ackEntry
  split
  · exact .refl s
  split
  · exact .refl s
  split
  · refine .updatePoint fun r => ?_
    unfold PointRecord.acknowledgedBy
    split
    · exact r.dropWatcher_place p
    · exact .inl ⟨rfl, rfl, rfl⟩
  · exact .refl s

theorem setDeadband (p : PortId) (a : Nat × Nat) (s : State) : s.SameDirectory (setDeadband p a s).1 := by
  unfold Machine.setDeadband
  split
  · exact .refl s
  split
  · exact .refl s
  split
  · exact .refl s
  exact .updatePoint fun r => .inl ⟨rfl, rfl, rfl⟩

theorem closeSession (s : State) (p : PortId) : s.SameDirectory (s.closeSession p) :=
  (((event fun _ r => .closeFor r p _).trans (mapLeases _ _)).trans (updatePoints fun _ r => r.dropWatcher_place p)).trans
    (setPort _ _ _)

theorem openSession (p : PortId) (u : Unit) (s : State) : s.SameDirectory (openSession p u s).1 := by
  unfold Machine.openSession
  dsimp only
  split
  · exact (closeSession s p).trans (setPort _ _ _)
  · exact .setPort _ _ _

theorem setAttention (p : PortId) (a : Nat × Nat) (s : State) : s.SameDirectory (setAttention p a s).1 := by
  unfold Machine.setAttention
  split
  · exact .refl s
  · exact .setPort _ _ _

theorem onLinkNumber {act : LinkId → State → State × Response} (h : ∀ l (s : State), s.SameDirectory (act l s).1) (p : PortId)
    (n : Nat) (s : State) : s.SameDirectory (onLinkNumber act p n s).1 := by
  unfold Machine.onLinkNumber
  split
  · exact h _ s
  · exact .refl s

theorem startLinkRule (l : LinkId) (s : State) : s.SameDirectory (startLinkRule l s).1 := by
  unfold Machine.startLinkRule State.startLink
  split
  · exact .refl s
  · exact .refl s
  · refine ((setLink s _ _).trans (mapNodes fun n => ?_)).trans (startCycle _ _)
    split <;> exact ⟨rfl, rfl⟩

theorem stopLinkRule (l : LinkId) (s : State) : s.SameDirectory (stopLinkRule l s).1 := by
  unfold Machine.stopLinkRule
  split
  · exact .refl s
  · exact .refl s
  · exact .setLink _ _ _

theorem attemptRetry (l : LinkId) {s t : State} (h : execAttemptRetry l s = .next t) : s.SameDirectory t := by
  cases h
  split
  · exact .refl s
  split
  · exact .refl s
  split
  · exact .refl s
  exact (setLink s _ _).trans (setNode (by rw [State.setLink_node]) (by rw [State.setLink_node]))

end State.SameDirectory

/-! ## Grants -/

/-- The grant of a request whose rule keeps the laws of the directory. -/
theorem DirectoryLaws.grantOf {α : Type} {s : State} (h : DirectoryLaws s) {mine : Byte → Bool} {pol : Policy}
    {form : List Byte → Option α} {act : PortId → α → State → State × Response}
    (hact : ∀ p a, DirectoryLaws (act p a s).1) : DirectoryLaws (s.grantOf mine pol form act) :=
  State.grantOf_keeps DirectoryLaws h (fun _ _ _ hu => (State.SameDirectory.finishGrant _ _ _).laws hu)
    fun p a _ _ _ _ => hact p a

/-- The grant of a request whose rule leaves the directory alone. -/
theorem DirectoryLaws.grant_same {α : Type} {s : State} (h : DirectoryLaws s) {code : Byte} {pol : Policy}
    {form : List Byte → Option α} {act : PortId → α → State → State × Response}
    (hact : ∀ p a (s : State), s.SameDirectory (act p a s).1) : DirectoryLaws (s.grant code pol form act) :=
  h.grantOf fun p a => (hact p a s).laws h

/-- The grant of a request that only reports. -/
theorem DirectoryLaws.grant_reading {α : Type} {s : State} (h : DirectoryLaws s) {code : Byte} {pol : Policy}
    {form : List Byte → Option α} {f : PortId → α → State → Response} :
    DirectoryLaws (s.grant code pol form (reading f)) := h.grantOf fun _ _ => h

/-- The grant of a request on a node slot (ch. 2.8). -/
theorem DirectoryLaws.grant_onNodeSlot {s : State} (h : DirectoryLaws s) {code : Byte} {pol : Policy}
    {form : List Byte → Option Nat} {act : NodeSlot → State → State × Response}
    (hact : ∀ n, DirectoryLaws (act n s).1) : DirectoryLaws (s.grant code pol form (onNodeSlot act)) :=
  h.grantOf fun p n => by
    unfold onNodeSlot
    split
    · exact hact _
    · exact h

theorem DirectoryLaws.nameNode {s : State} (h : DirectoryLaws s) (p : PortId) (a : Nat × Text) :
    DirectoryLaws (nameNode p a s).1 := by
  unfold Machine.nameNode
  dsimp only
  split
  · split
    · exact h
    split
    · exact h
    split
    · exact h
    split
    · exact h
    exact h.rename _ _
  · exact h

theorem DirectoryLaws.rescanNode {s : State} (h : DirectoryLaws s) (n : NodeSlot) : DirectoryLaws (rescanNode n s).1 := by
  unfold Machine.rescanNode
  split
  · rename_i hst; exact h.setNode_unused (.inl hst) _
  · exact h

theorem DirectoryLaws.includeNode {s : State} (h : DirectoryLaws s) (n : NodeSlot) :
    DirectoryLaws (includeNode n s).1 := by
  unfold Machine.includeNode
  split
  · rename_i hst; exact h.setNode_unused (.inr hst) _
  · exact h

theorem DirectoryLaws.excludeNode {s : State} (h : DirectoryLaws s) (n : NodeSlot) :
    DirectoryLaws (excludeNode n s).1 := by
  unfold Machine.excludeNode
  dsimp only
  split
  · exact h
  · exact h.withdrawNode n _

theorem DirectoryLaws.forgetNode {s : State} (h : DirectoryLaws s) (n : NodeSlot) : DirectoryLaws (forgetNode n s).1 := by
  unfold Machine.forgetNode
  dsimp only
  split
  · exact h
  · exact h.withdrawNode n _

/-- SET_LINK may lose the nodes that a lower loss limit leaves behind: they are ONLINE or RESYNC (R45, R83). -/
theorem DirectoryLaws.setLinkRule {s : State} (h : DirectoryLaws s) (p : PortId)
    (a : Nat × Byte × Nat × Nat × Nat × Nat × Nat × BitVec 16) : DirectoryLaws (setLinkRule p a s).1 := by
  unfold Machine.setLinkRule
  split
  · exact h
  split
  · exact h
  split
  · exact h
  split
  · exact h
  refine DirectoryLaws.loseNodes ((State.SameDirectory.setLink s _ _).laws h) _ fun n hn => ?_
  simp only [State.overLimit, Bool.and_eq_true] at hn
  rw [State.setLink_node]
  exact State.exchangingOn_state hn.1

/-! ## Every command -/

/-- With every record FREE and no name in the map, the laws of the directory hold. -/
theorem DirectoryLaws.of_reset {t : State} (hpoints : t.points = State.reset.points) (hmap : t.nameMap = []) :
    DirectoryLaws t := by
  refine ⟨(recordsLaw_iff t).mpr fun i => ?_, fun name i => ?_, by rw [hmap]; exact .nil⟩
  · rw [State.point_of_reset hpoints]; trivial
  · rw [hmap, State.point_of_reset hpoints]; simp [PointRecord.published, PointRecord.reset]

theorem exec_directoryLaws {c : Instr} {s t : State} (h : DirectoryLaws s) (hexec : exec c s = .next t) :
    DirectoryLaws t := by
  cases c with
  | reset => cases hexec; exact .of_reset rfl rfl
  | resetEnd a b =>
    cases hexec
    split
    · exact (State.SameDirectory.mk rfl (fun _ => rfl) (fun _ => rfl) fun _ => .inl ⟨rfl, rfl, rfl⟩).laws h
    · exact h
  | checkEnd passed =>
    cases hexec
    split
    · exact .of_reset rfl rfl
    · exact h
  | windowOpen p =>
    cases hexec
    split
    · exact h
    · exact (State.SameDirectory.setPort _ _ _).laws h
  | windowClose p edge =>
    obtain rfl | ⟨u, a, b, rfl⟩ | ⟨r, rfl, -⟩ := execWindowClose_cases hexec
    · exact h
    · exact .of_reset rfl rfl
    · exact (State.SameDirectory.setPort _ _ _).laws h
  | pollRequest => cases hexec; exact h.grant_reading
  | unknownRequest => cases hexec; exact h.grantOf fun _ _ => h
  | lookup => cases hexec; exact h.grant_reading
  | listPoints => cases hexec; exact h.grant_reading
  | describePoint => cases hexec; exact h.grant_reading
  | pointSummary => cases hexec; exact h.grant_reading
  | nodeInfo => cases hexec; exact h.grant_onNodeSlot fun _ => h
  | listNodes => cases hexec; exact h.grant_reading
  | nameNode => cases hexec; exact h.grantOf h.nameNode
  | rescanNode => cases hexec; exact h.grant_onNodeSlot h.rescanNode
  | excludeNode => cases hexec; exact h.grant_onNodeSlot h.excludeNode
  | includeNode => cases hexec; exact h.grant_onNodeSlot h.includeNode
  | forgetNode => cases hexec; exact h.grant_onNodeSlot h.forgetNode
  | startLink => cases hexec; exact h.grant_same (.onLinkNumber .startLinkRule)
  | stopLink => cases hexec; exact h.grant_same (.onLinkNumber .stopLinkRule)
  | setLink => cases hexec; exact h.grantOf h.setLinkRule
  | linkStatus => cases hexec; exact h.grant_same (.onLinkNumber fun _ s => .refl s)
  | read => cases hexec; exact h.grant_reading
  | write => cases hexec; exact h.grant_same .writePoints
  | setSafe => cases hexec; exact h.grant_same .setSafePoint
  | substitute => cases hexec; exact h.grant_same .substitutePoint
  | unsubstitute => cases hexec; exact h.grant_same .unsubstitutePoint
  | openLease => cases hexec; exact h.grant_same .openLease
  | claim => cases hexec; exact h.grant_same .claimLease
  | release => cases hexec; exact h.grant_same .releaseLease
  | renew => cases hexec; exact h.grant_same .renewLease
  | closeLease => cases hexec; exact h.grant_same .closeLeaseRule
  | revoke => cases hexec; exact h.grant_same .revokeLease
  | leaseInfo => cases hexec; exact h.grant_reading
  | watch => cases hexec; exact h.grant_same (.entriesRequest .watchEntry)
  | unwatch => cases hexec; exact h.grant_same (.entriesRequest .unwatchEntry)
  | setDeadband => cases hexec; exact h.grant_same .setDeadband
  | nextChanges => cases hexec; exact h.grant_same fun _ _ _ => .setPort _ _ _
  | ackChanges => cases hexec; exact h.grant_same (.entriesRequest .ackEntry)
  | deviceInfo => cases hexec; exact h.grant_reading
  | openSession => cases hexec; exact h.grant_same .openSession
  | closeSession => cases hexec; exact h.grant_same fun p _ s => .closeSession s p
  | setAttention => cases hexec; exact h.grant_same .setAttention
  | resetDevice => cases hexec; exact h.grant_reading
  | leaseClockTick => cases hexec; exact (State.SameDirectory.clockTick s).laws h
  | leaseExpiry index =>
    cases hexec
    split
    · split
      · exact (State.SameDirectory.clockTick s).laws h
      · exact h
    · exact h
  | cycleTimerExpiry l =>
    cases hexec
    split
    · exact (State.SameDirectory.cycleExpiry s l).laws h
    · exact h
  | callBuild l => cases hexec; exact (State.SameDirectory.callBuild s l).laws h
  | attemptRetry l => exact (State.SameDirectory.attemptRetry l hexec).laws h
  | answerReceived l frame =>
    cases hexec
    split
    · exact h
    · split
      · exact h.completeCall _ _ _ _
      · exact h.attemptFails l
  | replyTimeout l => cases hexec; exact h.attemptFails l
  | answerBadLength l n =>
    cases hexec
    split
    · exact h.attemptFails l
    · exact h
  | answerTruncated l => cases hexec; exact h.attemptFails l
  | framingFault l => cases hexec; exact h.attemptFails l
  | broadcastParkCompletion l =>
    cases hexec
    split
    · exact (State.SameDirectory.setLink _ _ _).laws (h.stopNodes l)
    · exact h

/-- Settles O60: each operation of the node table moves a node and its records together, and keeps the name map with the records it
publishes, renames and retires; every other operation leaves the directory alone. -/
theorem stepKeepsDirectoryLaws : Obligations.StepKeepsDirectoryLaws := by
  intro s t hrecords hnames h
  obtain rfl | ⟨c, rest, hexec⟩ := step_next h
  · exact ⟨hrecords, hnames⟩
  · exact exec_directoryLaws ((State.SameDirectory.setPending s rest).laws ⟨hrecords, hnames⟩) hexec

end Sys2Proof.Machine
end

section
/-! The handle check, and the requests that report (ch. 1.8, R5, R22 to R25, R50, R51, R84, R159). -/

namespace Sys2Proof.Machine

/-! ## The grant of a request whose common checks pass -/

/-- A request of a port with an open session to a READY part is answered by its own rule (R153). -/
theorem State.grant_of_asks {α : Type} {s : State} {p : PortId} {code : Byte} {params : List Byte}
    (h : s.asks p code params) {form : List Byte → Option α} {act : PortId → α → State → State × Response} {a : α}
    (hform : form params = some a) :
    s.grant code anyPort form act = (act p a s).1.finishGrant p (act p a s).2 := by
  obtain ⟨hready, hnext, hsession⟩ := h
  exact State.grant_runs hnext (by simp [hready]) hform (fun _ => hsession) nofun

/-- The same of a supervisor-only request of a supervisor port. -/
theorem State.grant_of_supervisorAsks {α : Type} {s : State} {p : PortId} {code : Byte} {params : List Byte}
    (h : s.supervisorAsks p code params) {form : List Byte → Option α} {act : PortId → α → State → State × Response} {a : α}
    (hform : form params = some a) :
    s.grant code supervisorOnly form act = (act p a s).1.finishGrant p (act p a s).2 := by
  obtain ⟨⟨hready, hnext, hsession⟩, hsupervisor⟩ := h
  exact State.grant_runs hnext (by simp [hready]) hform (fun _ => hsession) fun _ => hsupervisor

theorem byte_toNat {n : Nat} (h : n < 256) : (byte n).toNat = n := by
  simp [byte, Nat.mod_eq_of_lt h]

/-! ## The handle check (R5) -/

/-- Settles O15, by the state of the record in the handle's slot. -/
theorem handleCheckOutcomes : Obligations.HandleCheckOutcomes := by
  intro s h i forRetired _ hi
  obtain rfl : i = handleSlot h := Fin.ext hi
  dsimp only
  unfold State.checkHandle handleGeneration
  dsimp only
  refine ⟨?_, ?_, ?_, ?_⟩
  · rintro (hst | hst) <;> simp [hst]
  · rintro (hst | hst | hst) hgen <;> simp [hst, hgen]
  · rintro (hst | hst) hgen <;> simp [hst, hgen]
  · intro hst hgen; simp [hst, hgen]

/-! ## LOOKUP (R21, R22) -/

/-- A name is split at its first full stop (R21). -/
theorem splitName_eq_some {name station element : Text} :
    splitName name = some (station, element) ↔ name = station ++ fullStop :: element ∧ fullStop ∉ station := by
  induction name generalizing station with
  | nil => simp [splitName]
  | cons c rest ih =>
    unfold splitName
    split
    · rename_i hc
      subst hc
      cases station with
      | nil => simp [eq_comm]
      | cons d tail =>
        refine ⟨nofun, fun ⟨hname, hnot⟩ => absurd ?_ hnot⟩
        rw [(List.cons.inj hname).1]
        exact List.mem_cons_self
    · rename_i hc
      cases station with
      | nil => simp [hc]
      | cons d tail =>
        simp only [Option.map_eq_some_iff, Prod.exists, Prod.mk.injEq, List.cons.injEq, List.cons_append, List.mem_cons]
        constructor
        · rintro ⟨st, el, hsplit, ⟨rfl, rfl⟩, rfl⟩
          obtain ⟨rfl, hnot⟩ := ih.mp hsplit
          exact ⟨⟨rfl, rfl⟩, fun hor => hor.elim (fun h => hc h.symm) hnot⟩
        · rintro ⟨⟨rfl, rfl⟩, hnot⟩
          exact ⟨tail, element, ih.mpr ⟨rfl, fun h => hnot (.inr h)⟩, ⟨rfl, rfl⟩, rfl⟩

/-- The check of a full name is what R21 states. -/
theorem fullNameLegal_iff (name : Text) : fullNameLegal name = true ↔ lawfulFullName name := by
  unfold fullNameLegal lawfulFullName
  constructor
  · intro h
    split at h
    · rename_i station element hsplit
      simp only [countIn, Bool.and_eq_true, decide_eq_true_eq, List.all_eq_true] at h
      obtain ⟨⟨⟨⟨hs1, hs8⟩, he1, he12⟩, hs⟩, he⟩ := h
      exact ⟨station, element, (splitName_eq_some.mp hsplit).1, hs1, hs8, he1, he12, hs, he⟩
    · cases h
  · rintro ⟨station, element, hname, hs1, hs8, he1, he12, hs, he⟩
    have hstop : fullStop ∉ station := fun hin => absurd (hs _ hin) (by decide)
    rw [splitName_eq_some.mpr ⟨hname, hstop⟩]
    simp only [countIn, Bool.and_eq_true, decide_eq_true_eq, List.all_eq_true]
    exact ⟨⟨⟨⟨hs1, hs8⟩, he1, he12⟩, hs⟩, he⟩

theorem State.findName_eq_none {s : State} {name : Text} (h : ∀ i, (name, i) ∉ s.nameMap) : s.findName name = none := by
  unfold State.findName
  rw [Option.map_eq_none_iff, List.find?_eq_none]
  rintro ⟨name', i⟩ hin heq
  exact h i (eq_of_beq heq ▸ hin)

theorem State.findName_eq_some {s : State} {name : Text} {i : DirSlot} (hin : (name, i) ∈ s.nameMap)
    (hunique : ∀ j, (name, j) ∈ s.nameMap → j = i) : s.findName name = some i := by
  unfold State.findName
  obtain ⟨⟨name', j⟩, hfind⟩ := Option.isSome_iff_exists.mp
    (List.find?_isSome.mpr ⟨(name, i), hin, beq_self_eq_true name⟩ : (s.nameMap.find? fun e => e.1 == name).isSome)
  have hname : name' = name := by simpa using List.find?_some hfind
  have hj : j = i := hunique j (hname ▸ List.mem_of_find?_eq_some hfind)
  rw [hfind, hj.symm]
  rfl

/-- Settles O16: the name check is that of R21, and the name map's search finds the one entry of the name. -/
theorem lookupAnswers : Obligations.LookupAnswers := by
  intro s p name hlength hasks
  have hform : formName (byte name.length :: name) = some name := by simp [formName, byte_toNat hlength]
  have hrun : exec .lookup s = .next (s.finishGrant p (lookupAnswer p name s)) :=
    congrArg Host.Outcome.next (State.grant_of_asks hasks hform)
  rw [hrun]
  unfold lookupAnswer
  refine ⟨fun hbad => ?_, fun hlawful hnone => ?_, fun i hlawful hin hunique => ?_⟩
  · rw [if_neg fun h => hbad ((fullNameLegal_iff name).mp h)]
    rfl
  · rw [if_pos ((fullNameLegal_iff name).mpr hlawful), State.findName_eq_none hnone]
    rfl
  · rw [if_pos ((fullNameLegal_iff name).mpr hlawful), State.findName_eq_some hin hunique]
    rfl

/-! ## LIST_POINTS (R23) -/

theorem directionOf_eq_some {b : Byte} {d : Direction} : directionOf b = some d ↔ b = d.code := by
  constructor
  · intro h
    unfold directionOf at h
    split at h
    · rename_i hb; cases h; exact BitVec.eq_of_toNat_eq hb
    · rename_i hb; cases h; exact BitVec.eq_of_toNat_eq hb
    · cases h
  · rintro rfl
    cases d <;> rfl

/-- A node filter in range selects every node, or the one its byte gives (R23). -/
theorem nodeFilterOf_eq_some {b : Byte} (h : b = 0xFF ∨ b.toNat ≤ 31) :
    ∃ node, nodeFilterOf b = some node ∧ ∀ n : Nat, (node == none || node == some n) = (b == 0xFF || b.toNat == n) := by
  by_cases hany : b = 0xFF
  · exact ⟨none, if_pos hany, fun n => by rw [hany]; rfl⟩
  · refine ⟨some b.toNat, (if_neg hany).trans (if_pos (h.resolve_left hany)), fun n => ?_⟩
    rw [beq_false_of_ne hany]
    rfl

theorem nodeFilterOf_eq_none {b : Byte} (h : ¬(b = 0xFF ∨ b.toNat ≤ 31)) : nodeFilterOf b = none := by
  rw [not_or] at h
  exact (if_neg h.1).trans (if_neg h.2)

/-- A direction filter in range selects every record, or those of the direction its byte gives (R23). -/
theorem directionFilterOf_eq_some {b : Byte} (h : b = 0xFF ∨ b = 0 ∨ b = 1) :
    ∃ dir, directionFilterOf b = some dir ∧
      ∀ d : Direction, (dir == none || dir == some d) = (b == 0xFF || b == d.code) := by
  obtain rfl | rfl | rfl := h
  · exact ⟨none, rfl, fun _ => rfl⟩
  · exact ⟨some .inp, rfl, fun d => by cases d <;> rfl⟩
  · exact ⟨some .out, rfl, fun d => by cases d <;> rfl⟩

theorem directionFilterOf_eq_none {b : Byte} (h : ¬(b = 0xFF ∨ b = 0 ∨ b = 1)) : directionFilterOf b = none := by
  rw [not_or, not_or] at h
  obtain ⟨hany, hinp, hout⟩ := h
  have hdir : directionOf b = none := Option.eq_none_iff_forall_ne_some.mpr fun d hd => by
    have hb := directionOf_eq_some.mp hd
    cases d
    · exact hinp hb
    · exact hout hb
  unfold directionFilterOf
  rw [if_neg hany, hdir]
  rfl

/-- The records of the slots that meet a test are the entries that meet it (the slots in ascending order). -/
theorem State.entries_filter (s : State) (test : DirSlot → PointRecord → Bool) :
    ((entries s.points).filter fun e => test e.1 e.2) =
      (slotsWhere fun i => test i (s.point i)).map fun i => (i, s.point i) := by
  rw [entries_eq, List.filter_map]
  rfl

/-- What LIST_POINTS reports of the first six chosen slots (R23, ch. 8.4). -/
theorem listPoints_fields (s : State) (chosen : List DirSlot) :
    (let sel := (chosen.map fun i => (i, s.point i)).take 6
     le16 (listNextSlot sel) ++ byte sel.length :: sel.flatMap listEntry) =
      le16 (match chosen[5]? with
        | some i => i.val + 1
        | none => 512) ++
        byte (chosen.take 6).length :: (chosen.take 6).flatMap fun i =>
          le16 (i.val + 512 * (s.point i).generation) ++
            [byte (s.point i).nodeSlot.val, (s.point i).direction.code, (s.point i).state.code] := by
  have hnext : listNextSlot ((chosen.map fun i => (i, s.point i)).take 6) =
      match chosen[5]? with
        | some i => i.val + 1
        | none => 512 := by
    unfold listNextSlot
    rw [List.getElem?_take_of_lt (by omega), List.getElem?_map]
    cases chosen[5]? <;> rfl
  dsimp only
  rw [hnext, ← List.map_take, List.length_map, List.flatMap_map]
  rfl

/-- Settles O17: filters in range select as their bytes say, and the entries chosen are those of the chosen slots. -/
theorem listPointsAnswers : Obligations.ListPointsAnswers := by
  intro s p a b nf df hasks
  have hrun : exec .listPoints s = .next (s.finishGrant p (listPointsAnswer p (u16 a b, nf, df) s)) :=
    congrArg Host.Outcome.next (State.grant_of_asks hasks rfl)
  rw [hrun]
  dsimp only
  refine ⟨fun hbad => ?_, fun ⟨hnode, hdir⟩ => ?_⟩
  · unfold listPointsAnswer
    by_cases hnode : nf = 0xFF ∨ nf.toNat ≤ 31
    · rw [directionFilterOf_eq_none fun hdir => hbad ⟨hnode, hdir⟩]
      cases nodeFilterOf nf <;> rfl
    · rw [nodeFilterOf_eq_none hnode]
      rfl
  · obtain ⟨node, hnodeFilter, hnodeTest⟩ := nodeFilterOf_eq_some hnode
    obtain ⟨dir, hdirFilter, hdirTest⟩ := directionFilterOf_eq_some hdir
    unfold listPointsAnswer State.listPoints
    dsimp only
    rw [hnodeFilter, hdirFilter]
    dsimp only
    rw [State.entries_filter s fun i r => decide (u16 a b ≤ i.val) && r.listed &&
      (node == none || node == some r.nodeSlot.val) && (dir == none || dir == some r.direction)]
    simp only [hnodeTest, hdirTest, PointRecord.listed, PointRecord.published]
    generalize (slotsWhere _) = chosen
    exact congrArg (fun fields => Host.Outcome.next (s.finishGrant p ⟨.ok, fields⟩)) (listPoints_fields s _)

end Sys2Proof.Machine
end

section
/-! The requests that report, continued, and NAME_NODE (R20, R24, R25, R49 to R51, R84, R159). -/

namespace Sys2Proof.Machine

/-! ## POINT_SUMMARY, LIST_NODES, DEVICE_INFO (R25, R51, R159) -/

/-- The records of a table in ascending order of their indices. -/
theorem table_toList {α : Type} {n : Nat} (v : Vector α n) : v.toList = (List.finRange n).map fun i => v[i] := by
  apply List.ext_getElem?
  intro i
  by_cases hi : i < n
  · simp [hi]
  · simp [hi]

theorem State.countState_eq (s : State) (st : PointState) : s.countState st = s.recordsIn st := by
  unfold State.countState State.recordsIn slotsWhere
  rw [table_toList, List.countP_map, List.countP_eq_length_filter]
  rfl

/-- Every slot is in exactly one of the five states. -/
theorem recordsIn_sum {ι : Type} (st : ι → PointState) (slots : List ι) :
    (slots.filter fun i => st i == .free).length + (slots.filter fun i => st i == .reserved).length +
          (slots.filter fun i => st i == .live).length + (slots.filter fun i => st i == .orphaned).length +
        (slots.filter fun i => st i == .retired).length = slots.length := by
  induction slots with
  | nil => rfl
  | cons i rest ih =>
    simp only [List.filter_cons, List.length_cons]
    cases st i <;> simp <;> omega

/-- DEVICE_INFO reports the device state READY or FAILED: a grant occurs in these two alone (R160, R161). -/
theorem State.device_code {s : State} (h : s.serving = true) : s.device.code = if s.device = .failed then 2 else 1 := by
  unfold State.serving at h
  cases hd : s.device <;> simp [hd] at h
  · rfl
  · rfl

theorem PortSet.toByte_eq (a : PortSet) :
    a.toByte = byte ((a.has .h0).toNat + 2 * (a.has .h1).toNat + 4 * (a.has .h2).toNat) := by
  rcases a with ⟨_ | _, _ | _, _ | _⟩ <;> rfl

/-- Settles O18: tables are read slot by slot, and each record is in one of the five states. -/
theorem summariesReportTheTables : Obligations.SummariesReportTheTables := by
  intro s p
  refine ⟨fun hasks => ?_, ?_, fun hasks => ?_, fun hnext => ?_⟩
  · have hrun : exec .pointSummary s = .next (s.finishGrant p (pointSummaryAnswer p () s)) :=
      congrArg Host.Outcome.next (State.grant_of_asks hasks rfl)
    rw [hrun]
    unfold pointSummaryAnswer
    simp only [State.countState_eq]
    rfl
  · exact (recordsIn_sum (fun i => (s.point i).state) (List.finRange 512)).trans (List.length_finRange)
  · have hrun : exec .listNodes s = .next (s.finishGrant p (listNodesAnswer p () s)) :=
      congrArg Host.Outcome.next (State.grant_of_asks hasks rfl)
    rw [hrun]
    unfold listNodesAnswer
    rw [table_toList, List.map_map]
    rfl
  · have hserving : s.serving = true := by
      obtain ⟨g, hg, -⟩ := Option.map_eq_some_iff.mp hnext
      exact s.nextRequest_serving hg
    have hrun : exec .deviceInfo s = .next (s.finishGrant p (deviceInfoAnswer p () s)) :=
      congrArg Host.Outcome.next (State.grant_runs hnext (fun _ => rfl) rfl nofun nofun)
    rw [hrun]
    unfold deviceInfoAnswer
    rw [State.device_code hserving, PortSet.toByte_eq]
    rfl

/-! ## DESCRIBE_POINT, NODE_INFO, LINK_STATUS (R24, R50, R84) -/

theorem nodeFlags_eq (r : NodeRecord) :
    nodeFlags r = byte (r.nodeFault.toNat + 2 * r.held.toNat + 4 * r.freshExpected.toNat + 8 * r.parkOwed.toNat) := by
  have hbit (b : Bool) (k : Nat) : (if b then k else 0) = k * b.toNat := by cases b <;> simp
  unfold nodeFlags
  simp only [hbit, Nat.one_mul]

theorem linkOf_toNat (l : LinkId) : linkOf l.toNat = some l := by cases l <;> rfl

theorem linkOf_eq_none {n : Nat} (h : 1 < n) : linkOf n = none := by
  obtain ⟨k, rfl⟩ := Nat.exists_eq_add_of_lt h
  rw [show 1 + k + 1 = k + 2 by omega]
  rfl

/-- A request on a node slot in range is the request on that slot (ch. 2.8). -/
theorem onNodeSlot_of_lt (act : NodeSlot → State → State × Response) (p : PortId) (s : State) {n : NodeSlot} {k : Nat}
    (h : n.val = k) : onNodeSlot act p k s = act n s := by
  subst h
  exact dif_pos n.isLt

theorem onNodeSlot_of_gt (act : NodeSlot → State → State × Response) (p : PortId) (s : State) {k : Nat} (h : 31 < k) :
    onNodeSlot act p k s = (s, answer .badRequest) := dif_neg (by omega)

theorem onLinkNumber_toNat (act : LinkId → State → State × Response) (p : PortId) (s : State) {l : LinkId} {k : Nat}
    (h : l.toNat = k) : onLinkNumber act p k s = act l s := by
  subst h
  unfold onLinkNumber
  rw [linkOf_toNat]

theorem onLinkNumber_of_gt (act : LinkId → State → State × Response) (p : PortId) (s : State) {k : Nat} (h : 1 < k) :
    onLinkNumber act p k s = (s, answer .badRequest) := by
  unfold onLinkNumber
  rw [linkOf_eq_none h]

/-- Settles O19, request by request: the operand is in range or not, and the fields are those of ch. 8.4. -/
theorem recordsAreReported : Obligations.RecordsAreReported := by
  intro s p
  refine ⟨fun a b hasks => ?_, fun b hasks => ?_, fun b hasks => ?_⟩
  · have hrun : exec .describePoint s = .next (s.finishGrant p (describePointAnswer p (u16 a b) s)) :=
      congrArg Host.Outcome.next (State.grant_of_asks hasks rfl)
    rw [hrun]
    unfold describePointAnswer
    refine ⟨fun e he => ?_, fun i hi => ?_⟩
    · rw [he]; rfl
    · rw [hi]
      simp [answerOk, describeFields, fullName, fullStop, NodeRecord.stationText]
  · have hrun : exec .nodeInfo s = .next
        ((onNodeSlot (fun n s => (s, answerOk (nodeInfoFields (s.node n)))) p b.toNat s).1.finishGrant p
          (onNodeSlot (fun n s => (s, answerOk (nodeInfoFields (s.node n)))) p b.toNat s).2) :=
      congrArg Host.Outcome.next (State.grant_of_asks hasks rfl)
    rw [hrun]
    refine ⟨fun hb => ?_, fun n hn => ?_⟩
    · rw [onNodeSlot_of_gt _ _ _ hb]; rfl
    · rw [onNodeSlot_of_lt _ _ _ hn]
      simp [answerOk, nodeInfoFields, nodeFlags_eq, padded, NodeRecord.stationText, List.replicate]
  · have hrun : exec .linkStatus s = .next
        ((onLinkNumber linkStatusRule p b.toNat s).1.finishGrant p (onLinkNumber linkStatusRule p b.toNat s).2) :=
      congrArg Host.Outcome.next (State.grant_of_asks hasks rfl)
    rw [hrun]
    refine ⟨fun hb => ?_, fun l hl => ?_⟩
    · rw [onLinkNumber_of_gt _ _ _ hb]; rfl
    · rw [onLinkNumber_toNat _ _ _ hl]
      simp [linkStatusRule, answerOk, linkStatusFields, settingsBytes]

/-! ## NAME_NODE (R20, R49) -/

theorem stationNameLegal_iff (name : Text) :
    stationNameLegal name = true ↔ 1 ≤ name.length ∧ name.length ≤ 8 ∧ ∀ c ∈ name, legalChar c = true := by
  simp [stationNameLegal, countIn, and_assoc]

theorem State.nameTaken_iff (s : State) (n : NodeSlot) (name : Text) :
    s.nameTaken n name = true ↔ ∃ m, m ≠ n ∧ (s.node m).state ≠ .vacant ∧ (s.node m).stationName = some name := by
  simp [State.nameTaken, State.node, entries_eq, and_assoc]

/-- The renamed part, as R20 and R49 state it. -/
theorem State.rename_eq (s : State) (n : NodeSlot) (name : Text) :
    (s.rekey n name).setNode n { s.node n with stationName := some name } =
      { s with
        nodes := s.nodes.set n { s.node n with stationName := some name }
        nameMap := s.nameMap.map fun e : Text × DirSlot =>
          let x := s.point e.2
          if (x.state = PointState.live ∨ x.state = PointState.orphaned) ∧ x.nodeSlot = n then
            (name ++ 0x2E :: x.elementName, e.2)
          else e } := by
  have hmap : (s.nameMap.map fun e =>
        if (s.point e.2).publishedOf n then (fullName name (s.point e.2).elementName, e.2) else e) =
      s.nameMap.map fun e : Text × DirSlot =>
        let x := s.point e.2
        if (x.state = PointState.live ∨ x.state = PointState.orphaned) ∧ x.nodeSlot = n then
          (name ++ 0x2E :: x.elementName, e.2)
        else e :=
    List.map_congr_left fun e _ => if_congr
      ((PointRecord.publishedOf_iff _ _).trans (and_congr_left' (PointRecord.published_iff _))) rfl rfl
  rw [← hmap]
  rfl

/-- Settles O20: the checks of R49 in order, and then the rename of `State.rename_eq`. -/
theorem nameNodeRenames : Obligations.NameNodeRenames := by
  intro s p b name hlength hasks
  have hform : formByteName (b :: byte name.length :: name) = some (b.toNat, name) := by
    simp [formByteName, formName, byte_toNat hlength]
  have hrun : exec .nameNode s =
      .next ((nameNode p (b.toNat, name) s).1.finishGrant p (nameNode p (b.toNat, name) s).2) :=
    congrArg Host.Outcome.next (State.grant_of_supervisorAsks hasks hform)
  rw [hrun]
  refine ⟨fun hb => ?_, fun n hn => ?_⟩
  · rw [show nameNode p (b.toNat, name) s = (s, answer .badRequest) from dif_neg (by dsimp only; omega)]
    rfl
  dsimp only
  have hrule : nameNode p (b.toNat, name) s =
      if (s.node n).state = .vacant then (s, answer .noNode)
      else if stationNameLegal name = false then (s, answer .badName)
      else if s.nameTaken n name then (s, answer .nameInUse)
      else if (s.node n).stationName = some name then (s, answer .ok)
      else ((s.rekey n name).setNode n { s.node n with stationName := some name }, answer .ok) := by
    rw [← hn]
    exact dif_pos n.isLt
  rw [hrule, ← stationNameLegal_iff, ← State.nameTaken_iff]
  refine ⟨fun hvacant => ?_, fun hstate hbad => ?_, fun hstate hlegal htaken => ?_, fun hstate hlegal hfree hsame => ?_,
    fun hstate hlegal hfree hnew => ?_⟩
  · rw [if_pos hvacant]; rfl
  · rw [if_neg hstate, if_pos (by simpa using hbad)]; rfl
  · rw [if_neg hstate, if_neg (by simp [hlegal]), if_pos htaken]; rfl
  · rw [if_neg hstate, if_neg (by simp [hlegal]), if_neg hfree, if_pos hsame]; rfl
  · rw [if_neg hstate, if_neg (by simp [hlegal]), if_neg hfree, if_neg hnew, State.rename_eq]; rfl

end Sys2Proof.Machine
end

section
/-! Reset (R160), the laws right after it, and what a retirement, a release of reservations and a loss do (R12, R14 to R19, R46, R95,
R123). -/

namespace Sys2Proof.Machine

/-! ## Reset (R160) -/

@[simp] theorem State.reset_point (i : DirSlot) : State.reset.point i = PointRecord.reset := State.point_of_reset rfl i
@[simp] theorem State.reset_node (n : NodeSlot) : State.reset.node n = NodeRecord.reset := by
  simp [State.node, State.reset]
@[simp] theorem State.reset_leaseAt (k : LeaseIndex) : State.reset.leaseAt k = LeaseRecord.reset := by
  simp [State.leaseAt, State.reset]
@[simp] theorem State.reset_link (l : LinkId) : State.reset.link l = LinkRecord.reset := by cases l <;> rfl
@[simp] theorem State.reset_port (p : PortId) : State.reset.port p = PortRecord.reset := by cases p <;> rfl

theorem State.resetBlocks_point (s : State) (i : DirSlot) : s.resetBlocks.point i = PointRecord.reset :=
  State.reset_point i
theorem State.resetBlocks_node (s : State) (n : NodeSlot) : s.resetBlocks.node n = NodeRecord.reset := State.reset_node n
theorem State.resetBlocks_leaseAt (s : State) (k : LeaseIndex) : s.resetBlocks.leaseAt k = LeaseRecord.reset :=
  State.reset_leaseAt k
theorem State.resetBlocks_link (s : State) (l : LinkId) : s.resetBlocks.link l = LinkRecord.reset := by cases l <;> rfl
theorem State.resetBlocks_port (s : State) (p : PortId) : s.resetBlocks.port p = (s.port p).abandoned := by
  cases p <;> rfl

theorem spiBits_ones : spiBits 0xFF = List.replicate 8 true := by decide

/-- SDOn is high throughout a window that is not served (R141). -/
theorem Window.sdoLevel_unserved (falls : Nat) : Window.sdoLevel .unserved falls = true := by
  unfold Window.sdoLevel windowOutput
  have hhigh (n : Nat) : ((List.replicate n (0xFF : Byte)).flatMap spiBits) = List.replicate (n * 8) true := by
    induction n with
    | zero => rfl
    | succ n ih =>
      rw [List.replicate_succ, List.flatMap_cons, ih, spiBits_ones, List.replicate_append_replicate]
      congr 1
      omega
  dsimp only
  rw [hhigh, List.getD_eq_getElem?_getD, List.getElem?_replicate]
  split <;> rfl

/-- Settles O5: every table and block after RESET is read off `State.resetBlocks`. -/
theorem resetValues : Obligations.ResetValues := by
  intro s
  refine ⟨s.resetBlocks, rfl, rfl, rfl, rfl, rfl, rfl, rfl, rfl, s.resetBlocks_point, s.resetBlocks_node,
    s.resetBlocks_leaseAt, s.resetBlocks_link, fun l bit => ?_, fun p => ⟨rfl, fun falls => ?_, s.resetBlocks_port p⟩⟩
  · rw [State.resetBlocks_link]
    simp [LinkRecord.txenHigh, LinkRecord.sending, LinkRecord.reset]
  · rw [State.resetBlocks_port]
    unfold PortRecord.sdoLevel PortRecord.abandoned
    cases (s.port p).window with
    | none => rfl
    | some w => exact congrArg some (Window.sdoLevel_unserved falls)

/-! ## The laws right after a reset -/

/-- Settles O54: every record stands at its reset value, of which each law is read off. -/
theorem lawsHoldAtReset : Obligations.LawsHoldAtReset := by
  obtain ⟨hrecords, hnames⟩ := DirectoryLaws.of_reset (t := State.reset) rfl rfl
  refine ⟨fun p => ?slots, fun _ => ?quiet, .of_reset rfl fun p => ?marks, fun i => ?values, fun i => ?pending,
    fun k => ?lease, ⟨fun i k => ?_, fun k => ?_, fun i k => ?_, fun i hst => ?_⟩, fun l => ?link, hrecords, hnames⟩
  case slots => rw [State.reset_port]; exact ⟨Nat.zero_le _, .nil⟩
  case quiet =>
    refine ⟨rfl, rfl, rfl, rfl, State.reset_link, rfl, fun p => ?_⟩
    rw [State.reset_port]
    exact ⟨rfl, .inl rfl⟩
  case marks => rw [State.reset_port]; rfl
  case values =>
    rw [State.reset_point]
    exact ⟨fun _ => ⟨by decide, rfl, rfl⟩, fun _ _ => nofun⟩
  case pending => rw [State.reset_point]; exact nofun
  case lease =>
    rw [State.reset_leaseAt]
    exact ⟨Nat.zero_le _, Nat.zero_le _, Nat.zero_le _, rfl, rfl, rfl, rfl, rfl, rfl⟩
  case link =>
    rw [State.reset_link]
    refine ⟨fun _ => rfl, fun _ => ⟨rfl, fun a => ?_⟩⟩
    rw [State.nodeAt, State.reset_node]
    exact ⟨nofun, nofun, nofun⟩
  · rw [State.reset_point, State.reset_leaseAt]; simp [PointRecord.reset, LeaseRecord.reset]
  · rw [State.reset_leaseAt]; exact .nil
  · rw [State.reset_point]; exact nofun
  · rw [State.reset_point] at hst; exact absurd rfl hst

/-! ## What an update of the records leaves of a port (R129) -/

theorem State.updatePoints_port_eq (s : State) (g : DirSlot → PointRecord → PointRecord) (p : PortId) :
    (s.updatePoints g).port p = { s.port p with markedCount := ((s.updatePoints g).port p).markedCount } := by
  rw [State.updatePoints_port]; rfl

/-! ## Retirement and release (R12, R15, R16, R123) -/

/-- What a watched record becomes at its retirement (R15, R85). -/
theorem PointRecord.retire_of_watched {r : PointRecord} (h : r.watch ≠ PortSet.empty) :
    r.retire =
      (let retired : PointRecord :=
        { r with
          state := .retired, lease := none, inFlight := none, substPort := none, revision := r.revision + 1
          mark := r.mark.union r.watch }
       if r.substPort = none then retired
       else { retired with value := r.fieldValue, quality := .lost, fieldQuality := .lost }) := by
  unfold PointRecord.retire
  rw [if_neg fun he => h ((PortSet.isEmpty_iff _).mp he)]
  unfold noteChange PointRecord.withdrawn
  cases r.substPort <;> simp

theorem PointRecord.retire_of_unwatched {r : PointRecord} (h : r.watch = PortSet.empty) : r.retire = r.freed :=
  if_pos ((PortSet.isEmpty_iff _).mpr h)

theorem State.retireNode_leaseAt (s : State) (n : NodeSlot) (k : LeaseIndex) :
    (s.retireNode n).leaseAt k = (s.leaseAt k).loseMembers fun i => (s.point i).publishedOf n :=
  State.mapLeases_leaseAt s _ k

/-- A lease at the retirement of members: some stay, in their order, and the others are counted as lost (R123). -/
theorem LeaseRecord.loseMembers_split (r : LeaseRecord) (gone : DirSlot → Bool) :
    ∃ kept lost : List DirSlot, kept.Sublist r.members ∧ (∀ i ∈ kept, ¬gone i = true) ∧ (∀ i ∈ lost, gone i = true) ∧
      kept.length + lost.length = r.members.length ∧ (∀ i ∈ r.members, ¬gone i = true → i ∈ kept) ∧
      r.loseMembers gone = { r with members := kept, lostMembers := min 255 (r.lostMembers + lost.length) } := by
  refine ⟨r.members.filter fun i => !gone i, r.members.filter gone, List.filter_sublist, fun i hi => ?_, fun i hi => ?_,
    ?_, fun i hi hkept => ?_, ?_⟩
  · simpa using (List.mem_filter.mp hi).2
  · exact (List.mem_filter.mp hi).2
  · have hsplit := List.length_eq_countP_add_countP gone (l := r.members)
    simp only [List.countP_eq_length_filter] at hsplit
    simp only [Bool.not_eq_true, Bool.decide_eq_false] at hsplit
    omega
  · exact List.mem_filter.mpr ⟨hi, by simpa using hkept⟩
  · unfold LeaseRecord.loseMembers satAdd
    rw [List.countP_eq_length_filter]

/-- Settles O22, from what retirement makes of a record, of the name map and of a lease. -/
theorem retirementOfANode : Obligations.RetirementOfANode := by
  intro s n
  have hgone (i : DirSlot) : (s.point i).publishedOf n = true ↔
      ((s.point i).state = .live ∨ (s.point i).state = .orphaned) ∧ (s.point i).nodeSlot = n :=
    (PointRecord.publishedOf_iff _ _).trans (and_congr_left' (PointRecord.published_iff _))
  dsimp only
  simp only [← hgone]
  refine ⟨fun i hi hwatch => ?_, fun i hi hwatch => ?_, fun i hi => ?_, fun name i => ?_, fun k => ?_,
    s.releaseReservations_point n, rfl, rfl, fun u hu => ?_⟩
  · rw [State.retireNode_point, if_pos hi, PointRecord.retire_of_unwatched hwatch]; rfl
  · rw [State.retireNode_point, if_pos hi, PointRecord.retire_of_watched hwatch]
  · rw [State.retireNode_point, if_neg hi]
  · rw [State.retireNode_nameMap, List.mem_filter]; simp
  · rw [State.retireNode_leaseAt]
    exact LeaseRecord.loseMembers_split _ _
  · obtain rfl | rfl := hu
    · refine ⟨rfl, rfl, rfl, rfl, rfl, rfl, rfl, fun q => ?_⟩
      exact State.updatePoints_port_eq _ _ q
    · refine ⟨rfl, rfl, rfl, rfl, rfl, rfl, rfl, fun q => ?_⟩
      exact State.updatePoints_port_eq _ _ q

/-! ## Loss (R14, R46, R95) -/

/-- The loss of its node is a reportable change of a LIVE record: its state changes (R127). -/
theorem PointRecord.report_lose {r : PointRecord} (h : r.state = .live) :
    report r r.lose =
      (let orphan : PointRecord :=
        { r with state := .orphaned, revision := r.revision + 1, mark := r.mark.union r.watch }
       if r.direction = .out then { orphan with quality := .lost }
       else if r.substPort = none then { orphan with quality := .lost, fieldQuality := .lost }
       else { orphan with fieldQuality := .lost }) := by
  have hreported : reportable r r.lose = true := by
    unfold reportable
    rw [(PointRecord.lose_entry r).1, h]
    simp
  unfold report
  rw [if_pos hreported]
  unfold noteChange PointRecord.lose
  cases hd : r.direction with
  | out => simp
  | inp => cases hs : r.substPort <;> simp

/-- Settles O23: the loss of a LIVE record is always a reportable change. -/
theorem lossOfNodes : Obligations.LossOfNodes := by
  intro s sel cause
  refine ⟨s.loseNodes_node sel cause, fun i hi => ?_, fun i hlive hsel => ?_, rfl, rfl, rfl, rfl, rfl, rfl, rfl, rfl,
    fun q => ?_⟩
  · refine (s.loseNodes_point sel cause i).trans (if_neg fun h => ?_)
    obtain hi | hi := hi
    · exact hi h.1
    · rw [hi] at h; cases h.2
  · refine (s.loseNodes_point sel cause i).trans ((if_pos ⟨hlive, hsel⟩).trans ?_)
    exact PointRecord.report_lose hlive
  · exact (State.updatePoints_port_eq _ _ q).trans (by rw [State.mapNodes_port]; rfl)

end Sys2Proof.Machine
end

section
/-! The answers of the field nodes: which frames are accepted (R62), the descriptors a DESCRIBE answer carries (R36), and what an accepted one
does (R35 to R41). -/

namespace Sys2Proof.Machine

/-! ## Accepted answers (R61, R62) -/

theorem kindByte_eq (kind : CallKind) (seqBit : Bool) :
    kindByte kind seqBit = if seqBit then kind.code ||| 0x80 else kind.code := by
  cases kind <;> cases seqBit <;> rfl

/-- The answer frame of ch. 8.6, of a length that its call requires, is accepted (R62). -/
theorem acceptAnswer_answerFrame {c : Call} {a : NodeAddr} (status : Byte) {payload : List Byte}
    (htarget : c.target = some a) (hlength : payload.length ≤ 40) (hfits : answerLengthLegal c payload.length = true) :
    acceptAnswer c (answerFrame a c.kind c.seqBit status payload) =
      some ⟨status.getLsbD 0, status.getLsbD 1, status.getLsbD 2, payload⟩ := by
  have hlen : (byte payload.length).toNat = payload.length := byte_toNat (by omega)
  have haddress : byte (0x81 + a.val) = byte (0x80 + (a.val + 1)) := congrArg byte (by omega)
  unfold acceptAnswer answerFrame
  rw [htarget]
  simp only [List.cons_append, hlen, List.take_left, ← kindByte_eq]
  exact if_pos ⟨hlength, List.getElem?_concat_length .., haddress, trivial, hfits⟩

/-- An accepted answer completes the call that awaits it: the node takes it if it expects it, and the cycle goes on (R29, R63). -/
theorem exec_answerReceived_taken {s : State} {l : LinkId} {c : Call} {a : NodeAddr} {frame : List Byte} {ans : Answer}
    (hawaits : s.awaits l c a) (haccept : acceptAnswer c frame = some ans)
    (htakes : (s.nodeAt l a).takes c.kind c.payload = true) :
    exec (.answerReceived l frame) s =
      .next (((s.setLink l { s.link l with call := none }).takeCompletion l a c.kind (some ans)).proceed l) := by
  obtain ⟨hcall, hwaiting, htarget⟩ := hawaits
  have hawaited : (s.link l).awaited = some (c, a) := by simp [LinkRecord.awaited, hcall, hwaiting, htarget]
  simp only [exec, execAnswerReceived, hawaited, haccept]
  exact congrArg (fun u : State => Host.Outcome.next (u.proceed l)) (if_pos htakes)

/-! ## Descriptors (R36, ch. 8.6) -/

theorem w32_toNat (a b c d : Byte) :
    (w32 a b c d).toNat = a.toNat + 256 * b.toNat + 65536 * c.toNat + 16777216 * d.toNat := by
  have ha := a.isLt; have hb := b.isLt; have hc := c.isLt; have hd := d.isLt
  rw [w32, BitVec.toNat_ofNat, Nat.mod_eq_of_lt (by omega)]

theorem le32_w32 (a b c d : Byte) : le32 (w32 a b c d) = [a, b, c, d] := by
  have ha := a.isLt; have hb := b.isLt; have hc := c.isLt; have hd := d.isLt
  have hbyte (x : Byte) (n : Nat) (h : n % 256 = x.toNat) : BitVec.ofNat 8 n = x :=
    BitVec.eq_of_toNat_eq ((BitVec.toNat_ofNat n 8).trans h)
  unfold le32
  rw [w32_toNat, hbyte a _ (by omega), hbyte b _ (by omega), hbyte c _ (by omega), hbyte d _ (by omega)]

theorem w32_of_le32 {v : Word32} {a b c d : Byte} (h : le32 v = [a, b, c, d]) : w32 a b c d = v := by
  have hv := v.isLt
  simp only [le32, List.cons.injEq, and_true] at h
  obtain ⟨rfl, rfl, rfl, rfl⟩ := h
  refine BitVec.eq_of_toNat_eq ?_
  rw [w32_toNat]
  simp only [BitVec.toNat_ofNat]
  omega

theorem kindOf_eq_some {b : Byte} {k : Kind} : kindOf b = some k ↔ b = k.code := by
  constructor
  · intro h
    unfold kindOf at h
    split at h
    case h_6 => cases h
    all_goals
      rename_i hb
      cases h
      exact BitVec.eq_of_toNat_eq hb
  · rintro rfl
    cases k <;> rfl

/-- A DESCRIBE answer's payload carries this descriptor, in the layout of ch. 8.6 and within the limits of R36 for every element. -/
def Descriptor.carriedBy (d : Descriptor) (payload : List Byte) : Prop :=
  (1 ≤ d.width ∧ d.width ≤ 32 ∧ d.name.length ≤ 12 ∧ d.unit.length ≤ 6) ∧
    payload = [d.kind.code, d.direction.code, byte d.width, 0] ++ le32 d.rawLow ++ le32 d.rawHigh ++ le32 d.safe ++
      byte d.name.length :: d.name ++ byte d.unit.length :: d.unit

theorem byte_of_toNat (b : Byte) : byte b.toNat = b := by simp [byte]

theorem parseDescriptor_eq_some {payload : List Byte} {d : Descriptor} :
    parseDescriptor payload = some d ↔ d.carriedBy payload := by
  constructor
  · intro h
    unfold parseDescriptor at h
    split at h
    · rename_i k dir w f a0 a1 a2 a3 b0 b1 b2 b3 c0 c1 c2 c3 n rest
      split at h
      · rename_i kind direction u unit hkind hdir hrest
        split at h
        · rename_i hlegal
          obtain ⟨hw1, hw32, rfl, hn, hu, hunit⟩ := hlegal
          cases h
          have hsplit : rest = rest.take n.toNat ++ u :: unit := by rw [← hrest, List.take_append_drop]
          have hname : (rest.take n.toNat).length = n.toNat := by
            have hlen := congrArg List.length hrest
            simp only [List.length_drop, List.length_cons] at hlen
            rw [List.length_take]
            omega
          refine ⟨⟨hw1, hw32, hname.le.trans hn, hunit.le.trans hu⟩, ?_⟩
          simp only [le32_w32, hname, hunit, byte_of_toNat, ← kindOf_eq_some.mp hkind, ← directionOf_eq_some.mp hdir,
            List.cons_append, List.nil_append, ← hsplit]
        · cases h
      · cases h
    · cases h
  · rintro ⟨⟨hw1, hw32, hname, hunit⟩, rfl⟩
    have hwidth : (byte d.width).toNat = d.width := byte_toNat (by omega)
    have hnamed : (byte d.name.length).toNat = d.name.length := byte_toNat (by omega)
    have hunits : (byte d.unit.length).toNat = d.unit.length := byte_toNat (by omega)
    have hword (v : Word32) : w32 (BitVec.ofNat 8 v.toNat) (BitVec.ofNat 8 (v.toNat / 256))
        (BitVec.ofNat 8 (v.toNat / 65536)) (BitVec.ofNat 8 (v.toNat / 16777216)) = v := w32_of_le32 rfl
    simp only [le32, List.cons_append, List.nil_append, parseDescriptor, kindOf_eq_some.mpr rfl,
      directionOf_eq_some.mpr rfl, hwidth, hnamed, hunits, hword, List.drop_left, List.take_left]
    exact if_pos ⟨hw1, hw32, trivial, hname, hunit, trivial⟩

/-- The conditions of R36 on a descriptor of a node: a PAD has none; any other element is checked against the node's RESERVED records. -/
def Descriptor.lawfulAt (d : Descriptor) (s : State) (n : NodeSlot) : Prop :=
  d.kind ≠ .pad →
    (d.kind = .flag → d.width = 1) ∧ 1 ≤ d.name.length ∧ (∀ ch ∈ d.name, legalChar ch = true) ∧
    (∀ i, (s.point i).state = .reserved → (s.point i).nodeSlot = n → (s.point i).elementName ≠ d.name) ∧
    (∀ ch ∈ d.unit, 0x20 ≤ ch.toNat ∧ ch.toNat ≤ 0x7E) ∧
    (d.kind = .unsigned → d.rawLow.toNat ≤ d.rawHigh.toNat ∧ d.rawHigh.toNat ≤ 2 ^ d.width - 1) ∧
    (d.kind = .signed → d.rawLow.toInt ≤ d.rawHigh.toInt ∧ -(2 ^ (d.width - 1) : Int) ≤ d.rawLow.toInt ∧
      d.rawHigh.toInt ≤ 2 ^ (d.width - 1) - 1) ∧
    (d.direction = .out →
      (d.kind = .unsigned → d.rawLow.toNat ≤ d.safe.toNat ∧ d.safe.toNat ≤ d.rawHigh.toNat) ∧
      (d.kind = .signed → d.rawLow.toInt ≤ d.safe.toInt ∧ d.safe.toInt ≤ d.rawHigh.toInt) ∧
      (d.kind = .flag ∨ d.kind = .bits → d.safe.toNat ≤ 2 ^ d.width - 1))

/-- An element name is in use when a RESERVED record of the node has it (R36). -/
theorem State.mem_reservedNames {s : State} {n : NodeSlot} {name : Text} :
    name ∈ s.reservedNames n ↔
      ∃ i, (s.point i).state = .reserved ∧ (s.point i).nodeSlot = n ∧ (s.point i).elementName = name := by
  simp [State.reservedNames, table_toList, State.point, and_assoc]

theorem Descriptor.rangeLegal_iff (d : Descriptor) :
    d.rangeLegal = true ↔
      (d.kind = .unsigned → d.rawLow.toNat ≤ d.rawHigh.toNat ∧ d.rawHigh.toNat ≤ 2 ^ d.width - 1) ∧
      (d.kind = .signed → d.rawLow.toInt ≤ d.rawHigh.toInt ∧ -(2 ^ (d.width - 1) : Int) ≤ d.rawLow.toInt ∧
        d.rawHigh.toInt ≤ 2 ^ (d.width - 1) - 1) := by
  unfold Descriptor.rangeLegal
  cases d.kind <;> simp [and_assoc]

theorem Descriptor.safeLegal_iff {d : Descriptor} (h : d.kind ≠ .pad) :
    d.safeLegal = true ↔
      (d.kind = .unsigned → d.rawLow.toNat ≤ d.safe.toNat ∧ d.safe.toNat ≤ d.rawHigh.toNat) ∧
      (d.kind = .signed → d.rawLow.toInt ≤ d.safe.toInt ∧ d.safe.toInt ≤ d.rawHigh.toInt) ∧
      (d.kind = .flag ∨ d.kind = .bits → d.safe.toNat ≤ 2 ^ d.width - 1) := by
  unfold Descriptor.safeLegal
  cases hk : d.kind <;> simp_all [valueInRange]

/-- The check of a descriptor is what R36 states. -/
theorem Descriptor.legal_iff (d : Descriptor) (s : State) (n : NodeSlot) :
    d.legal (s.reservedNames n) = true ↔ d.lawfulAt s n := by
  unfold Descriptor.legal Descriptor.lawfulAt
  by_cases hpad : d.kind = .pad
  · simp [hpad]
  have hflag : (d.kind != .flag || d.width == 1) = true ↔ (d.kind = .flag → d.width = 1) := by
    by_cases hf : d.kind = .flag <;> simp [hf]
  have hunused : (!(s.reservedNames n).contains d.name) = true ↔
      ∀ i, (s.point i).state = .reserved → (s.point i).nodeSlot = n → (s.point i).elementName ≠ d.name := by
    simp [State.mem_reservedNames]
  have hunit : d.unit.all printable = true ↔ ∀ ch ∈ d.unit, 0x20 ≤ ch.toNat ∧ ch.toNat ≤ 0x7E := by
    simp [printable]
  have hsafe : (d.direction == .inp || d.safeLegal) = true ↔ (d.direction = .out → d.safeLegal = true) := by
    cases d.direction <;> simp
  rw [beq_false_of_ne hpad, Bool.false_or]
  simp only [Bool.and_eq_true, decide_eq_true_eq, List.all_eq_true, hflag, hunused, hsafe, Descriptor.rangeLegal_iff,
    Descriptor.safeLegal_iff hpad, ← hunit, and_assoc, forall_const, ne_eq, hpad, not_false_eq_true]

/-! ## DESCRIBE answers (R35 to R41) -/

theorem State.setNode_setNode (s : State) (n : NodeSlot) (r r' : NodeRecord) :
    (s.setNode n r).setNode n r' = s.setNode n r' := by
  simp [State.setNode]

/-- An update of the records that no record tells apart. -/
theorem State.updatePoints_congr {s : State} {g g' : DirSlot → PointRecord → PointRecord}
    (h : ∀ i, g i (s.point i) = g' i (s.point i)) : s.updatePoints g = s.updatePoints g' := by
  have htable : tabMap g s.points = tabMap g' s.points := table_ext fun i => by
    rw [tabMap_get, tabMap_get]; exact h i
  unfold State.updatePoints
  rw [htable]

/-- The describe cursor moves past an element of a node with this record, and the last element completes describing (R35, R40). -/
theorem State.advanceCursor_setNode (u : State) (n : NodeSlot) (r : NodeRecord) :
    (u.setNode n r).advanceCursor n =
      if r.cursor + 1 = r.identity.elementCount then (u.setNode n { r with cursor := r.cursor + 1 }).completeDescribing n
      else u.setNode n { r with cursor := r.cursor + 1 } := by
  unfold State.advanceCursor
  simp only [State.setNode_node, if_true, State.setNode_setNode]

theorem State.refuseNode_setNode (s : State) (n : NodeSlot) (r r' : NodeRecord) (why : RefuseReason) :
    (s.setNode n r).refuseNode n r' why = s.refuseNode n r' why :=
  State.setNode_setNode (s.releaseReservations n) n r (r'.refuse why)

/-- A restart begins describing again (R39). -/
theorem State.describeAnswered_restart {s : State} {n : NodeSlot} {ans : Answer}
    (h : isRestart .describe ans (s.node n) = true) :
    s.describeAnswered n ans = s.restartDescribing n ((s.node n).answered .describe ans) := if_pos h

/-- A payload that is no legal descriptor is refused (R36, R41). -/
theorem State.describeAnswered_refused {s : State} {n : NodeSlot} {ans : Answer}
    (h : isRestart .describe ans (s.node n) = false) (hno : ∀ d : Descriptor, d.carriedBy ans.payload → ¬d.lawfulAt s n) :
    s.describeAnswered n ans = s.refuseNode n ((s.node n).answered .describe ans) .descriptor := by
  refine (if_neg (by simp [h])).trans ?_
  cases hparse : parseDescriptor ans.payload with
  | none => rfl
  | some d => exact if_neg fun hlegal => hno d (parseDescriptor_eq_some.mp hparse) ((d.legal_iff s n).mp hlegal)

/-- A legal element is placed (R37, R38). -/
theorem State.describeAnswered_placed {s : State} {n : NodeSlot} {ans : Answer} {d : Descriptor}
    (h : isRestart .describe ans (s.node n) = false) (hcarried : d.carriedBy ans.payload) (hlawful : d.lawfulAt s n) :
    s.describeAnswered n ans = (s.setNode n ((s.node n).answered .describe ans)).placeElement n d := by
  refine (if_neg (by simp [h])).trans ?_
  rw [parseDescriptor_eq_some.mpr hcarried]
  exact if_pos ((d.legal_iff s n).mpr hlawful)

end Sys2Proof.Machine
end

section
/-! What a DESCRIBE answer reserves or is refused for, and the completion of describing (R4, R8 to R10, R13, R35 to R41). -/

namespace Sys2Proof.Machine

/-! ## The placing of an element (R37, R38) -/

theorem State.freePoint_setNode (s : State) (n : NodeSlot) (r : NodeRecord) : (s.setNode n r).freePoint = s.freePoint := rfl

theorem State.updatePoints_setNode (s : State) (n : NodeSlot) (r : NodeRecord)
    (g : DirSlot → PointRecord → PointRecord) : (s.setNode n r).updatePoints g = (s.updatePoints g).setNode n r := rfl

/-- The element fits the image of its direction behind what is packed already (R37). -/
def NodeRecord.fits (r : NodeRecord) (d : Descriptor) : Prop :=
  (if d.direction = .inp then r.packedIn else r.packedOut) + d.width ≤
    8 * (if d.direction = .inp then r.identity.inputLength else r.identity.outputLength)

theorem NodeRecord.fits_iff (r : NodeRecord) (d : Descriptor) :
    r.fits d ↔ r.packed d.direction + d.width ≤ r.imageBitCount d.direction := by
  unfold NodeRecord.fits
  cases d.direction <;> rfl

theorem NodeRecord.overflow_of_not_fits (r : NodeRecord) {d : Descriptor} (h : ¬r.fits d) :
    r.imageBitCount d.direction < r.packed d.direction + d.width := Nat.lt_of_not_le fun hle => h ((r.fits_iff d).mpr hle)

theorem NodeRecord.not_overflow_of_fits (r : NodeRecord) {d : Descriptor} (h : r.fits d) :
    ¬r.imageBitCount d.direction < r.packed d.direction + d.width := Nat.not_lt.mpr ((r.fits_iff d).mp h)

/-- An element that does not fit its image is refused (R37, R41). -/
theorem State.placeElement_overflow {s : State} {n : NodeSlot} {r : NodeRecord} {d : Descriptor}
    (hover : ¬r.fits d) :
    (s.setNode n r).placeElement n d = s.refuseNode n (r.pack d.direction d.width) .layout := by
  unfold State.placeElement
  simp only [State.setNode_node, if_true, r.overflow_of_not_fits hover, State.refuseNode_setNode]

/-- A PAD is packed and takes no record (R38). -/
theorem State.placeElement_pad {s : State} {n : NodeSlot} {r : NodeRecord} {d : Descriptor}
    (hfits : r.fits d) (hpad : d.kind = .pad) :
    (s.setNode n r).placeElement n d = (s.setNode n (r.pack d.direction d.width)).advanceCursor n := by
  unfold State.placeElement
  simp only [State.setNode_node, if_true, r.not_overflow_of_fits hfits, if_false, hpad, State.setNode_setNode]

/-- An element that finds no FREE record is refused (R10, R41). -/
theorem State.placeElement_full {s : State} {n : NodeSlot} {r : NodeRecord} {d : Descriptor}
    (hfits : r.fits d) (hpad : d.kind ≠ .pad)
    (hfull : s.freePoint = none) :
    (s.setNode n r).placeElement n d = s.refuseNode n (r.pack d.direction d.width) .directoryFull := by
  unfold State.placeElement
  simp only [State.setNode_node, if_true, r.not_overflow_of_fits hfits, if_false, hpad, State.freePoint_setNode, hfull, State.refuseNode_setNode]

/-- Any other element takes the lowest FREE record (R8, R9, R38). -/
theorem State.placeElement_reserve {s : State} {n : NodeSlot} {r : NodeRecord} {d : Descriptor} {i : DirSlot}
    (hfits : r.fits d) (hpad : d.kind ≠ .pad)
    (hfree : s.freePoint = some i) :
    (s.setNode n r).placeElement n d =
      ((s.updatePoints fun j p =>
          if j = i then reservedRecord p.generation n r.cursor (r.packed d.direction) d else p).setNode n
        (r.pack d.direction d.width)).advanceCursor n := by
  unfold State.placeElement
  simp only [State.setNode_node, if_true, r.not_overflow_of_fits hfits, if_false, hpad, State.freePoint_setNode, hfree, State.setNode_setNode,
    State.updatePoints_setNode]

/-- An update of one record reads that record alone. -/
theorem State.updatePoints_at (s : State) (i : DirSlot) (f : PointRecord → PointRecord) :
    (s.updatePoints fun j p => if j = i then f p else p) = s.updatePoints fun j p => if j = i then f (s.point i) else p :=
  State.updatePoints_congr fun j => by
    split
    · rename_i hj; rw [hj]
    · rfl

theorem NodeRecord.pack_eq (r : NodeRecord) (d : Descriptor) :
    r.pack d.direction d.width =
      { r with
        packedIn := if decide (d.direction = .out) then r.packedIn else r.packedIn + d.width
        packedOut := if decide (d.direction = .out) then r.packedOut + d.width else r.packedOut } := by
  cases d.direction <;> rfl

theorem NodeRecord.packed_eq (r : NodeRecord) (d : Descriptor) :
    r.packed d.direction = if d.direction = .inp then r.packedIn else r.packedOut := by
  cases d.direction <;> rfl

/-- The lowest FREE record (R8). -/
theorem State.freePoint_eq_some {s : State} {i : DirSlot} (hfree : (s.point i).state = .free)
    (hlowest : ∀ j, j < i → (s.point j).state ≠ .free) : s.freePoint = some i :=
  (lowest_eq_some _ _ _).mpr ⟨beq_iff_eq.mpr hfree, fun j hj => beq_false_of_ne (hlowest j hj)⟩

theorem State.freePoint_eq_none {s : State} (h : ∀ j, (s.point j).state ≠ .free) : s.freePoint = none :=
  (lowest_eq_none _ _).mpr fun j => beq_false_of_ne (h j)

/-- A node's record after an accepted DESCRIBE answer (R30, R35). -/
theorem NodeRecord.answered_describe (r : NodeRecord) (ans : Answer) :
    r.answered .describe ans = { r with failures := 0, freshExpected := ans.fresh, held := ans.held || r.held } := by
  obtain ⟨fresh, held, fault, payload⟩ := ans
  cases held <;> rfl

/-- A taken answer leaves what is packed already. -/
theorem NodeRecord.fits_answered (r : NodeRecord) (ans : Answer) (d : Descriptor) :
    (r.answered .describe ans).fits d ↔ r.fits d := Iff.rfl

/-- The completion of an accepted DESCRIBE answer of a DESCRIBING node whose cursor it was asked with (R29, R35). -/
theorem exec_describeReceived {s : State} {l : LinkId} {c : Call} {a : NodeAddr} (status : Byte) {payload : List Byte}
    (hawaits : s.awaits l c a) (hkind : c.kind = .describe) (hstate : (s.nodeAt l a).state = .describing)
    (hasked : c.payload = [byte (s.nodeAt l a).cursor]) (hmin : 18 ≤ payload.length) (hmax : payload.length ≤ 36) :
    exec (.answerReceived l (answerFrame a c.kind c.seqBit status payload)) s =
      .next (((s.setLink l { s.link l with call := none }).describeAnswered (nodeSlotOf l a)
        ⟨status.getLsbD 0, status.getLsbD 1, status.getLsbD 2, payload⟩).proceed l) := by
  have hfits : answerLengthLegal c payload.length = true := by simp [answerLengthLegal, hkind, hmin, hmax]
  have haccept := acceptAnswer_answerFrame status hawaits.2.2 (by omega) hfits
  have htakes : (s.nodeAt l a).takes c.kind c.payload = true := by simp [NodeRecord.takes, hkind, hstate, hasked]
  rw [exec_answerReceived_taken hawaits haccept htakes, hkind]
  rfl

/-- A DESCRIBE answer is a restart when it carries FRESH unexpectedly (R30). -/
theorem isRestart_describe (ans : Answer) (r : NodeRecord) :
    isRestart .describe ans r = true ↔ ans.fresh = true ∧ r.freshExpected = false := by
  simp [isRestart]

/-- The record that an element takes (R1, R2, R4, R9). -/
theorem reservedRecord_eq (generation : Nat) (n : NodeSlot) (index offset : Nat) (d : Descriptor) :
    reservedRecord generation n index offset d =
      (let isOut := decide (d.direction = .out)
       let full := decide (d.kind = .flag ∨ d.kind = .bits)
       { state := .reserved
         generation := if generation < 127 then generation + 1 else 1
         nodeSlot := n, elementIndex := index, kind := d.kind, direction := d.direction, width := d.width
         imageOffset := offset, elementName := d.name, unitText := if d.unit = [] then none else some d.unit
         rawLow := if full then 0 else d.rawLow
         rawHigh := if full then BitVec.ofNat 32 (2 ^ d.width - 1) else d.rawHigh
         descriptorSafe := if isOut then d.safe else 0, safeValue := if isOut then d.safe else 0, value := 0
         fieldValue := 0, fieldQuality := .none, demand := if isOut then d.safe else 0, applied := none, pending := isOut
         inFlight := none, quality := .none, lease := none, substPort := none, revision := 0, deadband := 0, markRef := 0
         watch := PortSet.empty, mark := PortSet.empty }) := by
  have hgeneration : nextGeneration generation = if generation < 127 then generation + 1 else 1 := by
    unfold nextGeneration
    split <;> split <;> omega
  have hout : (d.direction == .out) = decide (d.direction = .out) := rfl
  have hfull : (d.kind == .flag || d.kind == .bits) = decide (d.kind = .flag ∨ d.kind = .bits) := by
    cases d.kind <;> rfl
  unfold reservedRecord
  rw [hgeneration, hout, hfull]
  rfl

/-! ## The completion of describing (R13, R40) -/

/-- An update of the records that keeps their marks leaves the ports as they are (R129). -/
theorem State.updatePoints_port_of_marks {s : State} {g : DirSlot → PointRecord → PointRecord}
    (h : ∀ i, (g i (s.point i)).mark = (s.point i).mark) (p : PortId) : (s.updatePoints g).port p = s.port p := by
  have hzip : ∀ e ∈ s.points.toList.zip (tabMap g s.points).toList, e.2.mark = e.1.mark := by
    intro e he
    rw [table_toList, table_toList (tabMap g s.points), List.zip_map'] at he
    obtain ⟨i, -, rfl⟩ := List.mem_map.mp he
    dsimp only
    rw [tabMap_get]
    exact h i
  have hset : marksSet p s.points.toList (tabMap g s.points).toList = 0 :=
    List.countP_eq_zero.mpr fun e he => by simp [hzip e he]
  have hremoved : marksRemoved p s.points.toList (tabMap g s.points).toList = 0 :=
    List.countP_eq_zero.mpr fun e he => by simp [hzip e he]
  rw [State.updatePoints_port]
  unfold PortRecord.recount
  rw [hset, hremoved]
  rfl

theorem State.completeDescribing_port (s : State) (n : NodeSlot) (p : PortId) :
    (s.completeDescribing n).port p = s.port p := by
  unfold State.completeDescribing State.publish
  rw [State.setNode_port, State.updatePoints_port_of_marks fun i => ?_]
  · simp
  · split <;> rfl

/-- The completion of describing changes the point records, the name map and the node records alone. -/
theorem State.completeDescribing_eq (s : State) (n : NodeSlot) :
    s.completeDescribing n =
      { s with
        points := (s.completeDescribing n).points, nameMap := (s.completeDescribing n).nameMap
        nodes := (s.completeDescribing n).nodes } := by
  have h0 : (s.completeDescribing n).port0 = s.port0 := s.completeDescribing_port n .h0
  have h1 : (s.completeDescribing n).port1 = s.port1 := s.completeDescribing_port n .h1
  have h2 : (s.completeDescribing n).port2 = s.port2 := s.completeDescribing_port n .h2
  calc s.completeDescribing n
      = { s with
          points := (s.completeDescribing n).points, nameMap := (s.completeDescribing n).nameMap
          nodes := (s.completeDescribing n).nodes, port0 := (s.completeDescribing n).port0
          port1 := (s.completeDescribing n).port1, port2 := (s.completeDescribing n).port2 } := rfl
    _ = _ := by rw [h0, h1, h2]

/-- Settles O52: the answer is accepted and taken, and then the cases of R35 to R39 in their order; the completion of describing keeps the
ports, since publication changes no mark. -/
theorem describeAnswersReserve : Obligations.DescribeAnswersReserve := by
  refine ⟨fun s l c a status payload hawaits hkind hstate hasked hmin hmax => ?_, fun s n => ?_⟩
  · dsimp only
    rw [exec_describeReceived status hawaits hkind hstate hasked hmin hmax]
    have hpoint (i : DirSlot) : (s.setLink l { s.link l with call := none }).point i = s.point i := by simp
    have hnode : (s.setLink l { s.link l with call := none }).node (nodeSlotOf l a) = s.node (nodeSlotOf l a) := by simp
    simp only [← hpoint, ← hnode]
    generalize s.setLink l { s.link l with call := none } = done
    generalize nodeSlotOf l a = n
    have hiff := isRestart_describe ⟨status.getLsbD 0, status.getLsbD 1, status.getLsbD 2, payload⟩ (done.node n)
    refine ⟨fun hrestart => ?_, fun hstays hno => ?_, fun d hstays hcarried hlawful => ?_⟩
    · rw [State.describeAnswered_restart (hiff.mpr hrestart), NodeRecord.answered_describe]
      rfl
    · have hrestart := Bool.eq_false_iff.mpr fun h => hstays (hiff.mp h)
      rw [State.describeAnswered_refused hrestart hno, NodeRecord.answered_describe]
      rfl
    · have hrestart := Bool.eq_false_iff.mpr fun h => hstays (hiff.mp h)
      rw [State.describeAnswered_placed hrestart hcarried hlawful]
      refine ⟨fun hover => ?_, fun hfits hpad => ?_, fun hfits hpad hfull => ?_, fun i hfits hpad hfree hlowest => ?_⟩
      · rw [State.placeElement_overflow (mt (NodeRecord.fits_answered _ _ _).mp hover), NodeRecord.pack_eq,
          NodeRecord.answered_describe]
        rfl
      · rw [State.placeElement_pad ((NodeRecord.fits_answered _ _ _).mpr hfits) hpad, NodeRecord.pack_eq,
          State.advanceCursor_setNode, NodeRecord.answered_describe]
      · rw [State.placeElement_full ((NodeRecord.fits_answered _ _ _).mpr hfits) hpad (State.freePoint_eq_none hfull),
          NodeRecord.pack_eq, NodeRecord.answered_describe]
        rfl
      · rw [State.placeElement_reserve ((NodeRecord.fits_answered _ _ _).mpr hfits) hpad
            (State.freePoint_eq_some hfree hlowest),
          State.updatePoints_at, reservedRecord_eq, NodeRecord.packed_eq, NodeRecord.pack_eq, State.advanceCursor_setNode,
          NodeRecord.answered_describe]
  · refine ⟨s.completeDescribing_eq n, s.completeDescribing_node n, s.completeDescribing_point n, fun nm i => ?_⟩
    rw [State.completeDescribing_nameMap, State.mem_publish_nameMap, and_assoc]
    rfl

end Sys2Proof.Machine
end

section
/-! What RESCAN_NODE, INCLUDE_NODE, EXCLUDE_NODE and FORGET_NODE do by the state of the node (R28, R52 to R55), and what the end of a link
stop makes of the nodes and records of its link (R48, R81). -/

namespace Sys2Proof.Machine

/-! ## The grant of a request on a node slot (ch. 2.8) -/

section
variable {s : State} {p : PortId} {code b : Byte}

/-- A supervisor's request on a node slot in range is answered by its rule on that slot. -/
theorem State.grant_onNodeSlot_of_lt (hasks : s.supervisorAsks p code [b]) {n : NodeSlot} (hn : n.val = b.toNat)
    (act : NodeSlot → State → State × Response) :
    s.grant code supervisorOnly formByte (onNodeSlot act) = (act n s).1.finishGrant p (act n s).2 :=
  onNodeSlot_of_lt act p s hn ▸ State.grant_of_supervisorAsks hasks rfl

theorem State.grant_onNodeSlot_of_gt (hasks : s.supervisorAsks p code [b]) (hb : 31 < b.toNat)
    (act : NodeSlot → State → State × Response) :
    s.grant code supervisorOnly formByte (onNodeSlot act) = s.finishGrant p ⟨.badRequest, []⟩ := by
  have hrun : s.grant code supervisorOnly formByte (onNodeSlot act) =
      (onNodeSlot act p b.toNat s).1.finishGrant p (onNodeSlot act p b.toNat s).2 := State.grant_of_supervisorAsks hasks rfl
  rw [hrun, onNodeSlot_of_gt act p s hb]
  rfl

end

/-! ## What a node leaves behind (R12, R16, R53, R55) -/

theorem NodeRecord.hasPoints_iff (r : NodeRecord) :
    r.hasPoints = true ↔ r.state = .online ∨ r.state = .resync ∨ r.state = .lost := by
  simp [NodeRecord.hasPoints, or_assoc]

theorem NodeRecord.not_hasPoints_describing {r : NodeRecord} (h : r.state = .describing) : ¬r.hasPoints = true := by
  simp [NodeRecord.hasPoints_iff, h]

/-- The states in which a node has neither published records nor reservations. -/
def NodeRecord.idle (r : NodeRecord) : Prop := r.state = .vacant ∨ r.state = .refused ∨ r.state = .parked

theorem NodeRecord.idle.not_hasPoints {r : NodeRecord} (h : r.idle) : ¬r.hasPoints = true := by
  rw [NodeRecord.hasPoints_iff]
  obtain h | h | h := h <;> simp [h]

theorem NodeRecord.idle.not_describing {r : NodeRecord} (h : r.idle) : r.state ≠ .describing := by
  obtain h | h | h := h <;> simp [h]

section
variable {s : State} {n : NodeSlot}

theorem State.withdrawNode_of_points (h : (s.node n).hasPoints = true) : s.withdrawNode n = s.retireNode n := if_pos h

theorem State.withdrawNode_of_describing (h : (s.node n).state = .describing) :
    s.withdrawNode n = s.releaseReservations n :=
  (if_neg (NodeRecord.not_hasPoints_describing h)).trans (if_pos h)

theorem State.withdrawNode_of_idle (h : (s.node n).idle) : s.withdrawNode n = s :=
  (if_neg h.not_hasPoints).trans (if_neg h.not_describing)

end

section
variable {r : NodeRecord}

theorem NodeRecord.parkOwedAfter_of_points (h : r.hasPoints = true) : r.parkOwedAfter = true := if_pos h

theorem NodeRecord.parkOwedAfter_of_describing (h : r.state = .describing) : r.parkOwedAfter = false :=
  (if_neg (NodeRecord.not_hasPoints_describing h)).trans (if_pos h)

theorem NodeRecord.parkOwedAfter_of_idle (h : r.idle) : r.parkOwedAfter = r.parkOwed :=
  (if_neg h.not_hasPoints).trans (if_neg h.not_describing)

end

/-! ## The rules of EXCLUDE_NODE and FORGET_NODE (R53, R55) -/

section
variable {s : State} {n : NodeSlot}

theorem excludeNode_of_not_parked (h : (s.node n).state ≠ .parked) :
    excludeNode n s =
      ((s.withdrawNode n).setNode n
        { s.node n with
          state := .parked, failures := 0, lostCause := none, refuseReason := none
          parkOwed := (s.node n).parkOwedAfter },
        answer .ok) := if_neg h

theorem forgetNode_of_not_vacant (h : (s.node n).state ≠ .vacant) :
    forgetNode n s =
      ((s.withdrawNode n).setNode n { (s.node n).vacated with parkOwed := (s.node n).parkOwedAfter }, answer .ok) := if_neg h

end

/-- Settles O21: each rule by the state of the node, with what the node leaves behind in that state. -/
theorem nodeRequestsByState : Obligations.NodeRequestsByState := by
  intro s p b
  refine ⟨fun hb => ⟨fun hasks => ?_, fun hasks => ?_, fun hasks => ?_, fun hasks => ?_⟩, fun n hn => ?_⟩
  · exact congrArg Host.Outcome.next (State.grant_onNodeSlot_of_gt hasks hb rescanNode)
  · exact congrArg Host.Outcome.next (State.grant_onNodeSlot_of_gt hasks hb excludeNode)
  · exact congrArg Host.Outcome.next (State.grant_onNodeSlot_of_gt hasks hb includeNode)
  · exact congrArg Host.Outcome.next (State.grant_onNodeSlot_of_gt hasks hb forgetNode)
  dsimp only
  refine ⟨fun hasks => ?_, fun hasks => ?_, fun hasks => ?_, fun hasks => ?_⟩
  · refine (congrArg Host.Outcome.next (State.grant_onNodeSlot_of_lt hasks hn rescanNode)).trans ?_
    unfold rescanNode
    split <;> rfl
  · refine (congrArg Host.Outcome.next (State.grant_onNodeSlot_of_lt hasks hn includeNode)).trans ?_
    unfold includeNode
    split <;> rfl
  · have hrun : exec .excludeNode s = .next ((excludeNode n s).1.finishGrant p (excludeNode n s).2) :=
      congrArg Host.Outcome.next (State.grant_onNodeSlot_of_lt hasks hn excludeNode)
    rw [hrun]
    refine ⟨fun hparked => ?_, fun hidle => ?_, fun hdescribing => ?_, fun hpoints => ?_⟩
    · rw [show excludeNode n s = (s, answer .ok) from if_pos hparked]; rfl
    · have hnotParked : (s.node n).state ≠ .parked := by obtain h | h := hidle <;> simp [h]
      have hidle : (s.node n).idle := hidle.imp_right .inl
      rw [excludeNode_of_not_parked hnotParked, State.withdrawNode_of_idle hidle, NodeRecord.parkOwedAfter_of_idle hidle]
      rfl
    · rw [excludeNode_of_not_parked (by simp [hdescribing]), State.withdrawNode_of_describing hdescribing,
        NodeRecord.parkOwedAfter_of_describing hdescribing]
      rfl
    · have hnotParked : (s.node n).state ≠ .parked := by obtain h | h | h := hpoints <;> simp [h]
      have hpoints := (NodeRecord.hasPoints_iff _).mpr hpoints
      rw [excludeNode_of_not_parked hnotParked, State.withdrawNode_of_points hpoints,
        NodeRecord.parkOwedAfter_of_points hpoints]
      rfl
  · have hrun : exec .forgetNode s = .next ((forgetNode n s).1.finishGrant p (forgetNode n s).2) :=
      congrArg Host.Outcome.next (State.grant_onNodeSlot_of_lt hasks hn forgetNode)
    rw [hrun]
    refine ⟨fun hvacant => ?_, fun hidle => ?_, fun hdescribing => ?_, fun hpoints => ?_⟩
    · rw [show forgetNode n s = (s, answer .noNode) from if_pos hvacant]; rfl
    · have hnotVacant : (s.node n).state ≠ .vacant := by obtain h | h := hidle <;> simp [h]
      have hidle : (s.node n).idle := .inr hidle
      rw [forgetNode_of_not_vacant hnotVacant, State.withdrawNode_of_idle hidle, NodeRecord.parkOwedAfter_of_idle hidle]
      rfl
    · rw [forgetNode_of_not_vacant (by simp [hdescribing]), State.withdrawNode_of_describing hdescribing,
        NodeRecord.parkOwedAfter_of_describing hdescribing]
      rfl
    · have hnotVacant : (s.node n).state ≠ .vacant := by obtain h | h | h := hpoints <;> simp [h]
      have hpoints := (NodeRecord.hasPoints_iff _).mpr hpoints
      rw [forgetNode_of_not_vacant hnotVacant, State.withdrawNode_of_points hpoints,
        NodeRecord.parkOwedAfter_of_points hpoints]
      rfl

/-! ## The end of a link stop (R48, R81) -/

theorem onLinkSlot_iff (l : LinkId) (n : NodeSlot) : onLinkSlot l n = true ↔ n.val / 16 = l.toNat := by
  have hn := n.isLt
  unfold onLinkSlot linkOfSlot
  rw [beq_iff_eq]
  split <;> cases l <;> simp [LinkId.toNat] <;> omega

theorem State.exchangingOn_iff (s : State) (l : LinkId) (n : NodeSlot) :
    s.exchangingOn l n = true ↔ n.val / 16 = l.toNat ∧ ((s.node n).state = .online ∨ (s.node n).state = .resync) := by
  simp [State.exchangingOn, onLinkSlot_iff]

theorem State.describingOn_iff (s : State) (l : LinkId) (n : NodeSlot) :
    s.describingOn l n = true ↔ n.val / 16 = l.toNat ∧ (s.node n).state = .describing := by
  simp [State.describingOn, onLinkSlot_iff]

/-- A node record after the end of a link stop (R48). -/
theorem State.stopNodes_node (s : State) (l : LinkId) (n : NodeSlot) :
    (s.stopNodes l).node n =
      if s.exchangingOn l n then { (s.node n).lose .stopped with parkOwed := false }
      else if s.describingOn l n then { (s.node n).vacated with parkOwed := false }
      else if onLinkSlot l n then { s.node n with parkOwed := false }
      else s.node n := by
  unfold State.stopNodes
  rw [State.mapNodes_node, State.updatePoints_node, State.loseNodes_node]
  by_cases hlink : onLinkSlot l n = true
  · rw [if_pos hlink]
    by_cases hlost : s.exchangingOn l n = true
    · have hkept : ¬s.describingOn l n = true := fun h => by
        have hst := State.describingOn_state h
        obtain hx | hx := State.exchangingOn_state hlost <;> simp [hst] at hx
      rw [if_pos hlost, if_neg hkept, if_pos hlost]
    · rw [if_neg hlost, if_neg hlost]
      split
      · rfl
      · rfl
  · have hother : ¬s.exchangingOn l n = true ∧ ¬s.describingOn l n = true := by
      rw [State.exchangingOn_iff, State.describingOn_iff, ← onLinkSlot_iff]
      exact ⟨fun h => hlink h.1, fun h => hlink h.1⟩
    rw [if_neg hlink, if_neg hother.1, if_neg hother.1, if_neg hother.2, if_neg hlink]

/-- A record after the end of a link stop: the loss of the exchanging nodes makes no record RESERVED (R12, R48). -/
theorem State.stopNodes_point (s : State) (l : LinkId) (i : DirSlot) :
    (s.stopNodes l).point i =
      if (s.point i).state = .reserved ∧ s.describingOn l (s.point i).nodeSlot = true then (s.point i).freed
      else (s.loseNodes (s.exchangingOn l) .stopped).point i := by
  unfold State.stopNodes
  rw [State.mapNodes_point, State.updatePoints_point, State.loseNodes_point]
  by_cases hlost : (s.point i).state = .live ∧ s.exchangingOn l (s.point i).nodeSlot = true
  · rw [if_pos hlost, report_state, (PointRecord.lose_entry _).1, hlost.1]
    simp
  · rw [if_neg hlost]

/-- A port's record after the end of a link stop: only its marked count can differ (R129). -/
theorem State.stopNodes_port (s : State) (l : LinkId) (q : PortId) :
    (s.stopNodes l).port q = { s.port q with markedCount := ((s.stopNodes l).port q).markedCount } := by
  unfold State.stopNodes State.loseNodes State.event
  rw [State.mapNodes_port, State.updatePoints_port, State.updatePoints_port, State.mapNodes_port]
  rfl

/-- Settles O53, from what the end of a link stop makes of a node, a record and a port. -/
theorem broadcastParkEndsTheStop : Obligations.BroadcastParkEndsTheStop := by
  intro s l c hstopping hcall hbroadcast
  have hparking : (s.link l).parkingAll = true := by simp [LinkRecord.parkingAll, hstopping, hcall, hbroadcast]
  refine ⟨s.endStop l, congrArg Host.Outcome.next (if_pos hparking), ?_⟩
  dsimp only
  simp only [← State.exchangingOn_iff, ← State.describingOn_iff, Bool.decide_eq_true]
  simp only [← onLinkSlot_iff]
  unfold State.endStop
  refine ⟨?_, fun l' hl => ?_, fun n => ?_, fun i => ?_, ?_, ?_, ?_, ?_, fun q => ?_⟩
  · rw [State.setLink_link, if_pos rfl]; rfl
  · rw [State.setLink_link, if_neg hl]; simp [State.stopNodes, State.loseNodes]
  · rw [State.setLink_node, State.stopNodes_node]; rfl
  · rw [State.setLink_point, State.stopNodes_point]; rfl
  · rw [State.setLink_nameMap]; rfl
  · rw [State.setLink_leases]; rfl
  · rw [State.setLink_device]; rfl
  · rw [State.setLink_pending]; rfl
  · rw [State.setLink_port]; exact s.stopNodes_port l q

end Sys2Proof.Machine
end

section
/-! What the completion of a call does (R29, R63, R78): failed attempts and their retries, and the answers to EXCHANGE and CLEAR_HOLD (R30,
R42, R43, R90 to R94). -/

namespace Sys2Proof.Machine

/-! ## Completions (R29, R61 to R63) -/

section
variable {s : State} {l : LinkId} {c : Call} {a : NodeAddr}

theorem State.awaited_of_awaits (h : s.awaits l c a) : (s.link l).awaited = some (c, a) := by
  obtain ⟨hcall, hwaiting, htarget⟩ := h
  simp [LinkRecord.awaited, hcall, hwaiting, htarget]

/-- Each event that fails an attempt does the same (R61). -/
theorem exec_failsAttempt {cmd : Instr} (h : failsAttempt l cmd) : exec cmd s = .next (s.attemptFails l) := by
  obtain rfl | rfl | rfl | ⟨b, hb, rfl⟩ := h
  · rfl
  · rfl
  · rfl
  · exact congrArg Host.Outcome.next (if_pos hb)

/-- A failed attempt that is not the last one waits for its retry (R63). -/
theorem State.attemptFails_of_left (h : s.awaits l c a) (hleft : 0 < c.attemptsLeft) :
    s.attemptFails l = s.setLink l { s.link l with call := some { c with waiting := false } } := by
  unfold State.attemptFails
  rw [State.awaited_of_awaits h]
  exact if_neg (by omega)

theorem State.attemptFails_of_last (h : s.awaits l c a) (hlast : c.attemptsLeft = 0) :
    s.attemptFails l = s.completeCall l c a none := by
  unfold State.attemptFails
  rw [State.awaited_of_awaits h]
  exact if_pos hlast

theorem exec_answerReceived_of_accept {frame : List Byte} {ans : Answer} (h : s.awaits l c a)
    (haccept : acceptAnswer c frame = some ans) :
    exec (.answerReceived l frame) s = .next (s.completeCall l c a (some ans)) := by
  simp only [exec, execAnswerReceived, State.awaited_of_awaits h, haccept]

/-- The link's record after a failed completion, which is counted but for a PROBE built for a VACANT record (R63). -/
theorem LinkRecord.endCall_none (r : LinkRecord) (c : Call) :
    r.endCall c none =
      { r with
        call := none
        failedCalls := if c.kind = .probe ∧ c.builtVacant = true then r.failedCalls else min 65535 (r.failedCalls + 1) } := by
  unfold LinkRecord.endCall LinkRecord.countFailure
  dsimp only
  split
  · rfl
  · rfl

theorem State.completeCall_taken {ans : Option Answer} (h : (s.nodeAt l a).takes c.kind c.payload = true) :
    s.completeCall l c a ans =
      ((s.setLink l ((s.link l).endCall c ans)).takeCompletion l a c.kind ans).proceed l :=
  congrArg (fun u : State => u.proceed l) (if_pos h)

theorem State.completeCall_discarded {ans : Option Answer} (h : ¬(s.nodeAt l a).takes c.kind c.payload = true) :
    s.completeCall l c a ans =
      ((s.setLink l ((s.link l).endCall c ans)).discardCompletion (nodeSlotOf l a) c.kind).proceed l :=
  congrArg (fun u : State => u.proceed l) (if_neg h)

/-- The last attempt fails, and the node takes the fact of failure (R29, R63). -/
theorem exec_lastFailure_taken {cmd : Instr} (h : s.awaits l c a) (hfails : failsAttempt l cmd) (hlast : c.attemptsLeft = 0)
    (htakes : (s.nodeAt l a).takes c.kind c.payload = true) :
    exec cmd s = .next (((s.setLink l ((s.link l).endCall c none)).takeCompletion l a c.kind none).proceed l) := by
  rw [exec_failsAttempt hfails, State.attemptFails_of_last h hlast, State.completeCall_taken htakes]

end

/-- Completions that leave the same state behind go on alike. -/
theorem next_proceed_congr {u v : State} {l : LinkId} (h : u = v) :
    (.next (u.proceed l) : Host.Outcome State Fault Refusal) = .next (v.proceed l) := by rw [h]

theorem answerLengthLegal_iff (c : Call) (k : Nat) : answerLengthLegal c k = true ↔ c.answerFits k := by
  unfold answerLengthLegal Call.answerFits
  cases c.kind <;> simp

/-- What the node record is to be in for the completion of a call to be taken, by its kind (R29). -/
def Call.expectedBy (c : Call) (r : NodeRecord) : Prop :=
  match c.kind with
  | .probe => (r.state = .vacant ∧ r.parkOwed = false) ∨ r.state = .resync ∨ r.state = .lost
  | .describe => r.state = .describing ∧ c.payload = [byte r.cursor]
  | .exchange => r.state = .online
  | .clearHold => r.state = .online
  | .park => (r.state = .vacant ∨ r.state = .parked) ∧ r.parkOwed = true

section
variable {c : Call} {r : NodeRecord}

theorem Call.expectedBy_probe (h : c.kind = .probe) :
    c.expectedBy r ↔ (r.state = .vacant ∧ r.parkOwed = false) ∨ r.state = .resync ∨ r.state = .lost := by
  unfold Call.expectedBy
  rw [h]

theorem Call.expectedBy_describe (h : c.kind = .describe) :
    c.expectedBy r ↔ r.state = .describing ∧ c.payload = [byte r.cursor] := by
  unfold Call.expectedBy
  rw [h]

theorem Call.expectedBy_exchangeClass (h : c.kind = .exchange ∨ c.kind = .clearHold) :
    c.expectedBy r ↔ r.state = .online := by
  unfold Call.expectedBy
  obtain h | h := h
  · rw [h]
  · rw [h]

end

theorem NodeRecord.takes_iff (r : NodeRecord) (c : Call) : r.takes c.kind c.payload = true ↔ c.expectedBy r := by
  unfold NodeRecord.takes Call.expectedBy
  cases c.kind <;> simp [or_assoc]

/-! ## Records of a node at an event of the link -/

theorem PointRecord.liveOf_iff (r : PointRecord) (n : NodeSlot) : r.liveOf n = true ↔ r.state = .live ∧ r.nodeSlot = n := by
  simp [PointRecord.liveOf]

/-- Two events that no record tells apart. -/
theorem State.event_congr {s : State} {f f' : DirSlot → PointRecord → PointRecord}
    (h : ∀ i, f i (s.point i) = f' i (s.point i)) : s.event f = s.event f' :=
  State.updatePoints_congr fun i => congrArg (report (s.point i)) (h i)

/-- An update of the records that keeps their marks changes the records alone (R129). -/
theorem State.updatePoints_of_marks {s : State} {g : DirSlot → PointRecord → PointRecord}
    (h : ∀ i, (g i (s.point i)).mark = (s.point i).mark) : s.updatePoints g = { s with points := tabMap g s.points } := by
  have h0 : (s.updatePoints g).port0 = s.port0 := State.updatePoints_port_of_marks h .h0
  have h1 : (s.updatePoints g).port1 = s.port1 := State.updatePoints_port_of_marks h .h1
  have h2 : (s.updatePoints g).port2 = s.port2 := State.updatePoints_port_of_marks h .h2
  calc s.updatePoints g
      = { s with
          points := tabMap g s.points, port0 := (s.updatePoints g).port0, port1 := (s.updatePoints g).port1
          port2 := (s.updatePoints g).port2 } := rfl
    _ = _ := by rw [h0, h1, h2]

/-- A completion that is not taken clears the in-flight values of the node's records if it is an EXCHANGE (R78). -/
theorem State.discardCompletion_eq (s : State) (n : NodeSlot) (kind : CallKind) :
    s.discardCompletion n kind =
      if kind = .exchange then
        { s with points := tabMap (fun _ x => if x.nodeSlot = n then { x with inFlight := none } else x) s.points }
      else s := by
  unfold State.discardCompletion
  rw [State.updatePoints_of_marks fun i => by split <;> rfl]

/-! ## Failed completions (R34, R35, R42, R44, R47, R94) -/

section
variable {x : PointRecord}

theorem PointRecord.exchangeFailed_out (h : x.direction = .out) : x.exchangeFailed = { x with inFlight := none } := by
  unfold PointRecord.exchangeFailed
  rw [h]

theorem PointRecord.exchangeFailed_inp (h : x.direction = .inp) :
    x.exchangeFailed =
      (let fails := decide (x.fieldQuality = .good ∨ x.fieldQuality = .suspect)
       { x with
         fieldQuality := if fails then .stale else x.fieldQuality
         quality := if x.substPort = none ∧ fails = true then .stale else x.quality }) := by
  unfold PointRecord.exchangeFailed
  rw [h]
  by_cases hfails : x.fieldQuality = .good ∨ x.fieldQuality = .suspect
  · cases x.substPort <;> simp [hfails]
  · simp [hfails, ← h]

theorem PointRecord.lose_out (h : x.direction = .out) : x.lose = { x with state := .orphaned, quality := .lost } := by
  unfold PointRecord.lose
  rw [h]

theorem PointRecord.lose_inp (h : x.direction = .inp) :
    x.lose =
      { x with
        state := .orphaned, fieldQuality := .lost, quality := if x.substPort = none then .lost else x.quality } := by
  unfold PointRecord.lose
  rw [h]
  cases x.substPort <;> simp

end

/-- A record of an ONLINE node after a failed EXCHANGE or CLEAR_HOLD, which may lose the node at the same event (R94, R95). -/
theorem PointRecord.exchangeFailed_eq (x : PointRecord) (limit : Bool) :
    (if limit then x.exchangeFailed.lose else x.exchangeFailed) =
      (let state := if limit then PointState.orphaned else x.state
       let fails := decide (x.fieldQuality = .good ∨ x.fieldQuality = .suspect)
       let field := if limit then Quality.lost else if fails then .stale else x.fieldQuality
       if x.direction = .out then
         { x with state := state, inFlight := none, quality := if limit then .lost else x.quality }
       else
         { x with
           state := state, fieldQuality := field
           quality := if x.substPort = none ∧ (limit = true ∨ fails = true) then field else x.quality }) := by
  dsimp only
  by_cases hd : x.direction = .out
  · rw [if_pos hd, PointRecord.exchangeFailed_out hd]
    cases limit with
    | true => exact PointRecord.lose_out (x := { x with inFlight := none }) hd
    | false => rfl
  · have hinp := PointRecord.inp_of_ne_out hd
    rw [if_neg hd]
    cases limit with
    | true =>
      refine (PointRecord.lose_inp (x := x.exchangeFailed) (by rw [PointRecord.exchangeFailed_inp hinp]; exact hinp)).trans ?_
      rw [PointRecord.exchangeFailed_inp hinp]
      by_cases hport : x.substPort = none
      · simp [hport]
      · simp [hport]
    | false =>
      refine (PointRecord.exchangeFailed_inp hinp).trans ?_
      by_cases hfails : x.fieldQuality = .good ∨ x.fieldQuality = .suspect
      · simp [hfails]
      · simp [hfails]

/-- A failed EXCHANGE or CLEAR_HOLD of an ONLINE node (R42, R46, R94, R95). -/
theorem State.exchangeFailed_eq (s : State) (l : LinkId) (n : NodeSlot) :
    s.exchangeFailed l n =
      (let nd := s.node n
       let limit := decide ((s.link l).settings.lossLimit ≤ nd.failures + 1)
       (s.setNode n
          (if limit then { nd with state := .lost, lostCause := some .failed, failures := 0 }
           else { nd with failures := nd.failures + 1 })).event fun _ x =>
        if x.state = .live ∧ x.nodeSlot = n then
          if limit then x.exchangeFailed.lose else x.exchangeFailed
        else x) := by
  simp only [← PointRecord.liveOf_iff]
  rfl

/-- A failed PROBE counts for a RESYNC node alone (R44). -/
theorem State.probeFailed_resync {s : State} {l : LinkId} {a : NodeAddr} (h : (s.nodeAt l a).state = .resync) :
    s.probeFailed l a =
      (let n := nodeSlotOf l a
       if (s.link l).settings.lossLimit ≤ (s.node n).failures + 1 then s.loseNodes (fun m => m == n) .failed
       else s.setNode n { s.node n with failures := (s.node n).failures + 1 }) := if_pos h

theorem State.probeFailed_other {s : State} {l : LinkId} {a : NodeAddr} (h : (s.nodeAt l a).state ≠ .resync) :
    s.probeFailed l a = s := if_neg h

theorem State.takeCompletion_exchangeFailed (s : State) (l : LinkId) (a : NodeAddr) {kind : CallKind}
    (h : kind = .exchange ∨ kind = .clearHold) :
    s.takeCompletion l a kind none = s.exchangeFailed l (nodeSlotOf l a) := by
  obtain rfl | rfl := h
  · rfl
  · rfl

/-- Settles O48: an attempt fails or the call completes; a completion is taken exactly when the node expects it, and each kind of failed
completion is what its lemma above states. -/
theorem attemptsFailAndAreRetried : Obligations.AttemptsFailAndAreRetried := by
  intro s l c a cmd
  dsimp only
  refine ⟨fun hcall hidle htarget => ?_, fun hawaits hfails => ⟨fun hleft => ?_, fun hlast => ?_⟩,
    fun ended hawaits hends => ?_⟩
  · simp only [exec, execAttemptRetry, hcall, htarget, hidle]
    rfl
  · rw [exec_failsAttempt hfails, State.attemptFails_of_left hawaits hleft]
  · have htaken (h : c.expectedBy (s.node (nodeSlotOf l a))) :
        exec cmd s = .next (((s.setLink l ((s.link l).endCall c none)).takeCompletion l a c.kind none).proceed l) :=
      exec_lastFailure_taken hawaits hfails hlast ((NodeRecord.takes_iff _ c).mpr h)
    have hlink : ((s.setLink l ((s.link l).endCall c none)).link l).settings = (s.link l).settings := by
      rw [State.setLink_link, if_pos rfl, LinkRecord.endCall_none]
    have hnode : (s.setLink l ((s.link l).endCall c none)).node (nodeSlotOf l a) = s.node (nodeSlotOf l a) := by simp
    rw [← LinkRecord.endCall_none]
    generalize s.setLink l ((s.link l).endCall c none) = done at htaken hlink hnode ⊢
    rw [← hlink]
    simp only [← hnode] at htaken ⊢
    refine ⟨fun hkind hstate => ?_, fun hkind hstate => ?_, fun hkind hstate hpayload => ?_, fun hkind hstate => ?_⟩
    · rw [htaken ((Call.expectedBy_probe hkind).mpr (hstate.imp_right .inr)), hkind]
      refine next_proceed_congr (State.probeFailed_other fun hresync => ?_)
      have hresync : (done.node (nodeSlotOf l a)).state = .resync := hresync
      obtain ⟨hvacant, -⟩ | hlost := hstate
      · simp [hvacant] at hresync
      · simp [hlost] at hresync
    · rw [htaken ((Call.expectedBy_probe hkind).mpr (.inr (.inl hstate))), hkind]
      simp only [decide_eq_true_iff]
      exact next_proceed_congr (State.probeFailed_resync hstate)
    · rw [htaken ((Call.expectedBy_describe hkind).mpr ⟨hstate, hpayload⟩), hkind]
      simp only [decide_eq_true_iff]
      rfl
    · rw [htaken ((Call.expectedBy_exchangeClass hkind).mpr hstate), State.takeCompletion_exchangeFailed _ _ _ hkind,
        State.exchangeFailed_eq]
      refine next_proceed_congr (State.event_congr fun i => ?_)
      rw [PointRecord.exchangeFailed_eq]
  · obtain ⟨ans, hcompletes, rfl⟩ : ∃ ans, exec cmd s = .next (s.completeCall l c a ans) ∧ (s.link l).endCall c ans = ended := by
      obtain ⟨hfails, hlast, rfl⟩ | ⟨status, payload, hmax, hfits, rfl, rfl⟩ := hends
      · exact ⟨none, by rw [exec_failsAttempt hfails, State.attemptFails_of_last hawaits hlast], LinkRecord.endCall_none _ c⟩
      · have haccept := acceptAnswer_answerFrame status hawaits.2.2 hmax ((answerLengthLegal_iff c _).mpr hfits)
        exact ⟨_, exec_answerReceived_of_accept hawaits haccept, rfl⟩
    rw [hcompletes]
    change (c.kind = .park → c.expectedBy (s.node (nodeSlotOf l a)) → _) ∧ (¬c.expectedBy (s.node (nodeSlotOf l a)) → _)
    refine ⟨fun hkind hexpected => ?_, fun hexpected => ?_⟩
    · rw [State.completeCall_taken ((NodeRecord.takes_iff _ c).mpr hexpected), hkind]
      refine next_proceed_congr ?_
      simp only [State.takeCompletion, State.setLink_node]
    · rw [State.completeCall_discarded (mt (NodeRecord.takes_iff _ c).mp hexpected)]
      refine next_proceed_congr ?_
      rw [State.discardCompletion_eq, State.setLink_points]

/-! ## Answers to EXCHANGE and CLEAR_HOLD (R30, R42, R43, R90 to R93) -/

theorem isRestart_iff {kind : CallKind} (h : kind ≠ .probe) (ans : Answer) (r : NodeRecord) :
    isRestart kind ans r = true ↔ ans.fresh = true ∧ r.freshExpected = false := by
  simp [isRestart, h]

section
variable {x : PointRecord} (ans : Answer)

/-- An IN record takes its field value and quality, and shows them unless a substitute is set (R85, R90). -/
theorem PointRecord.exchanged_inp (h : x.direction = .inp) :
    x.exchanged ans =
      (let v := x.extracted ans.payload
       let q := if ans.fault = true ∨ x.inRange v = false then Quality.suspect else .good
       if x.substPort = none then { x with fieldValue := v, fieldQuality := q, value := v, quality := q }
       else { x with fieldValue := v, fieldQuality := q }) := by
  unfold PointRecord.exchanged PointRecord.takeInput
  rw [h]
  cases x.substPort <;> simp

/-- An OUT record stands at SAFE under HELD, and has nothing to confirm without an in-flight value (R91, R92). -/
theorem PointRecord.exchanged_out_unconfirmed (h : x.direction = .out) (hnone : ans.held = true ∨ x.inFlight = none) :
    x.exchanged ans =
      { x with
        inFlight := none, applied := none, pending := true, quality := if ans.held = true then .safe else x.quality } := by
  unfold PointRecord.exchanged
  rw [h]
  by_cases hheld : ans.held = true
  · simp [h, hheld, PointRecord.standSafe, PointRecord.setApplied, PointRecord.recompute]
  · have hnone := hnone.resolve_left hheld
    simp [h, hheld, hnone, PointRecord.confirm, PointRecord.setApplied, PointRecord.recompute]

/-- An OUT record's snapshot is confirmed (R91). -/
theorem PointRecord.exchanged_out_confirmed (h : x.direction = .out) (hsome : ¬(ans.held = true ∨ x.inFlight = none)) :
    x.exchanged ans =
      { x with
        inFlight := none, applied := x.inFlight, pending := x.inFlight != some x.demand
        quality := if x.lease = none then .safe else .good } := by
  obtain ⟨hheld, hflight⟩ := not_or.mp hsome
  obtain ⟨v, hv⟩ := Option.ne_none_iff_exists'.mp hflight
  unfold PointRecord.exchanged
  rw [h]
  cases hl : x.lease <;> simp [h, hheld, hv, hl, PointRecord.confirm, PointRecord.setApplied, PointRecord.recompute]

end

theorem PointRecord.holdCleared_eq (x : PointRecord) :
    x.holdCleared =
      if x.direction = .out then { x with applied := none, pending := true, quality := .safe } else x := by
  unfold PointRecord.holdCleared
  cases hd : x.direction <;> simp [PointRecord.setApplied, PointRecord.recompute]

/-- A restart (R43). -/
theorem State.enterResync_eq (s : State) (n : NodeSlot) (r : NodeRecord) :
    s.enterResync n r =
      (s.setNode n { r with state := .resync }).updatePoints fun _ p =>
        if (p.state = .live ∧ p.nodeSlot = n) ∧ p.direction = .out then { p with inFlight := none } else p := by
  simp only [← PointRecord.liveOf_iff]
  rfl

section
variable {s : State} {l : LinkId} {a : NodeAddr} {ans : Answer}

theorem State.takeCompletion_restart {kind : CallKind} (hkind : kind = .exchange ∨ kind = .clearHold)
    (h : isRestart kind ans (s.nodeAt l a) = true) :
    s.takeCompletion l a kind (some ans) = s.enterResync (nodeSlotOf l a) ((s.nodeAt l a).answered kind ans) := by
  obtain rfl | rfl := hkind
  · exact if_pos h
  · exact if_pos h

theorem State.takeCompletion_exchanged (h : ¬isRestart .exchange ans (s.nodeAt l a) = true) :
    s.takeCompletion l a .exchange (some ans) =
      (s.setNode (nodeSlotOf l a) ((s.nodeAt l a).answered .exchange ans)).event fun _ x =>
        if x.state = .live ∧ x.nodeSlot = nodeSlotOf l a then x.exchanged ans else x := by
  simp only [← PointRecord.liveOf_iff]
  exact if_neg h

theorem State.takeCompletion_holdCleared (h : ¬isRestart .clearHold ans (s.nodeAt l a) = true) :
    s.takeCompletion l a .clearHold (some ans) =
      (s.setNode (nodeSlotOf l a) ((s.nodeAt l a).answered .clearHold ans)).event fun _ x =>
        if x.state = .live ∧ x.nodeSlot = nodeSlotOf l a then x.holdCleared else x := by
  simp only [← PointRecord.liveOf_iff]
  exact if_neg h

end

/-- The completion of an accepted EXCHANGE or CLEAR_HOLD answer of an ONLINE node (R29, R42). -/
theorem exec_exchangeReceived {s : State} {l : LinkId} {c : Call} {a : NodeAddr} (status : Byte) {payload : List Byte}
    (hawaits : s.awaits l c a) (hstate : (s.nodeAt l a).state = .online) (hmax : payload.length ≤ 40)
    (hfits : (c.kind = .exchange ∧ payload.length = c.answerLength) ∨ (c.kind = .clearHold ∧ payload = [])) :
    exec (.answerReceived l (answerFrame a c.kind c.seqBit status payload)) s =
      .next (((s.setLink l { s.link l with call := none }).takeCompletion l a c.kind
        (some ⟨status.getLsbD 0, status.getLsbD 1, status.getLsbD 2, payload⟩)).proceed l) := by
  have hlegal : c.answerFits payload.length := by
    unfold Call.answerFits
    obtain ⟨hkind, hlength⟩ | ⟨hkind, rfl⟩ := hfits
    · rw [hkind]; exact hlength
    · rw [hkind]; rfl
  have haccept := acceptAnswer_answerFrame status hawaits.2.2 hmax ((answerLengthLegal_iff c _).mpr hlegal)
  have hexpected := (Call.expectedBy_exchangeClass (hfits.imp And.left And.left)).mpr hstate
  exact exec_answerReceived_taken hawaits haccept ((NodeRecord.takes_iff _ c).mpr hexpected)

/-- Settles O50: the answer is accepted and taken; it is a restart or not, and then each record is taken by its direction. -/
theorem exchangeAnswersAreTaken : Obligations.ExchangeAnswersAreTaken := by
  intro s l c a status payload hawaits hstate hmax hfits
  dsimp only
  rw [exec_exchangeReceived status hawaits hstate hmax hfits]
  have hnode : (s.setLink l { s.link l with call := none }).node (nodeSlotOf l a) = s.node (nodeSlotOf l a) := by simp
  generalize s.setLink l { s.link l with call := none } = done at hnode ⊢
  simp only [← hnode]
  have hclass := hfits.imp And.left And.left
  have hrestart (kind : CallKind) (h : kind = .exchange ∨ kind = .clearHold) :=
    isRestart_iff (show kind ≠ .probe by obtain rfl | rfl := h <;> nofun)
      ⟨status.getLsbD 0, status.getLsbD 1, status.getLsbD 2, payload⟩ (done.nodeAt l a)
  refine ⟨fun hfresh hunexpected => ?_, fun hstays => ?_⟩
  · rw [State.takeCompletion_restart hclass ((hrestart _ hclass).mpr ⟨hfresh, hunexpected⟩), State.enterResync_eq]
    rfl
  have hstays : ¬(status.getLsbD 0 = true ∧ (done.nodeAt l a).freshExpected = false) := fun ⟨hfresh, hunexpected⟩ =>
    hstays.elim (fun h => Bool.noConfusion (hfresh.symm.trans h)) fun h => Bool.noConfusion (hunexpected.symm.trans h)
  refine ⟨fun hkind => ?_, fun hkind => ?_⟩
  · rw [hkind, State.takeCompletion_exchanged (mt (hrestart _ (.inl rfl)).mp hstays)]
    refine next_proceed_congr (State.event_congr fun i => ?_)
    generalize (State.point _ i) = x
    by_cases hmine : x.state = .live ∧ x.nodeSlot = nodeSlotOf l a
    · rw [if_pos hmine, if_neg (not_not_intro hmine)]
      by_cases hinp : x.direction = .inp
      · rw [if_pos hinp, PointRecord.exchanged_inp _ hinp]
      rw [if_neg hinp]
      have hout := PointRecord.out_of_ne_inp hinp
      by_cases hunconfirmed : status.getLsbD 1 = true ∨ x.inFlight = none
      · rw [if_pos hunconfirmed, PointRecord.exchanged_out_unconfirmed _ hout hunconfirmed]
      · rw [if_neg hunconfirmed, PointRecord.exchanged_out_confirmed _ hout hunconfirmed]
    · rw [if_neg hmine, if_pos hmine]
  · rw [hkind, State.takeCompletion_holdCleared (mt (hrestart _ (.inr rfl)).mp hstays)]
    refine next_proceed_congr (State.event_congr fun i => ?_)
    rw [PointRecord.holdCleared_eq]
    exact (ite_and ..).symm

end Sys2Proof.Machine
end

section
/-! The identity a PROBE answer carries (R31, R32), and the station name of a node that enters the table (R33). -/

namespace Sys2Proof.Machine

/-! ## The type text (R31) -/

theorem legalChar_ne_space {ch : Byte} (h : legalChar ch = true) : ch ≠ 0x20 := by
  rintro rfl
  exact absurd h (by decide)

/-- Legal characters and then spaces are a type text and its padding. -/
theorem typeTextOf_padded {type : Text} (k : Nat) (hlegal : ∀ ch ∈ type, legalChar ch = true) (hne : type ≠ []) :
    typeTextOf (type ++ List.replicate k 0x20) = some type := by
  have htext : (type ++ List.replicate k 0x20).takeWhile (fun c => c != 0x20) = type := by
    rw [List.takeWhile_append_of_pos fun ch hch => bne_iff_ne.mpr (legalChar_ne_space (hlegal ch hch))]
    cases k <;> simp [List.replicate_succ]
  unfold typeTextOf
  simp only [htext, List.drop_left]
  exact if_pos ⟨hne, List.all_eq_true.mpr hlegal, by simp⟩

/-- A field with a type text is 1 to 4 legal characters and then spaces. -/
theorem typeTextOf_eq_none {field : List Byte}
    (h : ∀ k, 1 ≤ k → k ≤ field.length →
      ¬((∀ ch ∈ field.take k, legalChar ch = true) ∧ ∀ ch ∈ field.drop k, ch = 0x20)) : typeTextOf field = none := by
  refine if_neg fun ⟨hne, hlegal, hspaces⟩ => ?_
  have hprefix : field.takeWhile (fun c => c != 0x20) <+: field := List.takeWhile_prefix _
  refine h _ (List.length_pos_iff.mpr hne) hprefix.length_le ⟨?_, ?_⟩
  · rw [← List.prefix_iff_eq_take.mp hprefix]
    exact List.all_eq_true.mp hlegal
  · simpa using hspaces

/-! ## The identity (R31, ch. 8.6) -/

section
variable {field : List Byte} {unit sig : Word32} {count inLen outLen hold : Byte}

/-- The fields of a PROBE answer's payload, and the limits on them. -/
theorem parseIdentity_eq (h : field.length = 4) :
    parseIdentity (field ++ le32 unit ++ le32 sig ++ [count, inLen, outLen, hold]) =
      (typeTextOf field).bind fun t =>
        if count.toNat ≤ 48 ∧ inLen.toNat ≤ 32 ∧ outLen.toNat ≤ 32 ∧ 1 ≤ hold.toNat then
          some ⟨t, unit, sig, count.toNat, inLen.toNat, outLen.toNat, 10 * hold.toNat⟩
        else none := by
  have hword (v : Word32) : w32 (BitVec.ofNat 8 v.toNat) (BitVec.ofNat 8 (v.toNat / 256))
      (BitVec.ofNat 8 (v.toNat / 65536)) (BitVec.ofNat 8 (v.toNat / 16777216)) = v := w32_of_le32 rfl
  match field, h with
  | [t0, t1, t2, t3], _ =>
    simp only [le32, List.cons_append, List.nil_append, parseIdentity, hword]
    cases typeTextOf [t0, t1, t2, t3] <;> rfl

theorem parseIdentity_of_sized (h : field.length = 4) {t : Text} (ht : typeTextOf field = some t)
    (hsized : count.toNat ≤ 48 ∧ inLen.toNat ≤ 32 ∧ outLen.toNat ≤ 32 ∧ 1 ≤ hold.toNat) :
    parseIdentity (field ++ le32 unit ++ le32 sig ++ [count, inLen, outLen, hold]) =
      some ⟨t, unit, sig, count.toNat, inLen.toNat, outLen.toNat, 10 * hold.toNat⟩ := by
  rw [parseIdentity_eq h, ht]
  exact if_pos hsized

/-- An identity is not valid when a number is out of range, or no length splits the first field into type text and spaces. -/
theorem parseIdentity_of_invalid (h : field.length = 4)
    (hinvalid : ¬(count.toNat ≤ 48 ∧ inLen.toNat ≤ 32 ∧ outLen.toNat ≤ 32 ∧ 1 ≤ hold.toNat) ∨
      ∀ k, 1 ≤ k → k ≤ 4 → ¬((∀ ch ∈ field.take k, legalChar ch = true) ∧ ∀ ch ∈ field.drop k, ch = 0x20)) :
    parseIdentity (field ++ le32 unit ++ le32 sig ++ [count, inLen, outLen, hold]) = none := by
  rw [parseIdentity_eq h]
  obtain hsized | htext := hinvalid
  · simp [hsized]
  · rw [typeTextOf_eq_none fun k h1 h4 => htext k h1 (h4.trans_eq h)]
    rfl

end

/-- The hold check against the period in force and the pending period (R32). -/
theorem holdCheck_iff (r : LinkRecord) (holdTime : Nat) :
    holdCheck r holdTime = true ↔
      3 * r.settings.period ≤ holdTime ∧ ∀ pp, r.pendingPeriod = some pp → 3 * pp ≤ holdTime := by
  unfold holdCheck
  cases r.pendingPeriod <;> simp

/-! ## Station names (R33) -/

/-- A default name with its last k characters replaced by '~'. -/
def nameForm (name : Text) (k : Nat) : Text := name.take (name.length - k) ++ List.replicate k 0x7E

theorem nameForms_eq (name : Text) : nameForms name = (List.range (name.length + 1)).map (nameForm name) := by
  rw [List.range_succ_eq_map, List.map_cons, List.map_map]
  simp [nameForms, nameForm, Function.comp_def]

/-- No other record in use has the name (R33; log entry 24). -/
def State.nameFree (s : State) (n : NodeSlot) (name : Text) : Prop :=
  ∀ m, m ≠ n → (s.node m).state ≠ .vacant → (s.node m).stationName ≠ some name

theorem State.nameTaken_eq_false_iff (s : State) (n : NodeSlot) (name : Text) :
    s.nameTaken n name = false ↔ s.nameFree n name := by
  rw [Bool.eq_false_iff, Ne, State.nameTaken_iff]
  unfold State.nameFree
  simp

/-- Whether a name is free depends on the other records alone. -/
theorem State.nameFree_congr {s t : State} {n : NodeSlot} (h : ∀ m, m ≠ n → t.node m = s.node m) (name : Text) :
    t.nameFree n name ↔ s.nameFree n name :=
  forall₂_congr fun m hm => by rw [h m hm]

theorem State.nameFree_setNode (s : State) (n : NodeSlot) (r : NodeRecord) (name : Text) :
    (s.setNode n r).nameFree n name ↔ s.nameFree n name :=
  State.nameFree_congr (fun m hm => by rw [State.setNode_node, if_neg hm]) name

theorem State.freshName_eq_some {s : State} {n : NodeSlot} {name : Text} {k : Nat} (hk : k ≤ name.length)
    (hfree : s.nameFree n (nameForm name k)) (hfirst : ∀ j, j < k → ¬s.nameFree n (nameForm name j)) :
    s.freshName n name = some (nameForm name k) := by
  unfold State.freshName
  rw [nameForms_eq, List.find?_map, Option.map_eq_some_iff]
  refine ⟨k, List.find?_range_eq_some.mpr ⟨?_, List.mem_range.mpr (by omega), fun j hj => ?_⟩, rfl⟩
  · simpa using (State.nameTaken_eq_false_iff s n _).mpr hfree
  · simpa using mt (State.nameTaken_eq_false_iff s n _).mp (hfirst j hj)

theorem State.freshName_eq_none {s : State} {n : NodeSlot} {name : Text}
    (h : ∀ k, k ≤ name.length → ¬s.nameFree n (nameForm name k)) : s.freshName n name = none := by
  unfold State.freshName
  rw [nameForms_eq, List.find?_map, Option.map_eq_none_iff, List.find?_range_eq_none]
  intro k hk
  simpa using mt (State.nameTaken_eq_false_iff s n _).mp (h k (by omega))

section
variable {s : State} {l : LinkId} {a : NodeAddr} {nd : NodeRecord} {t : Text}

/-- A node from RESYNC or LOST keeps its name under an unchanged type text (R33). -/
theorem State.entryName_keeps (h : (nd.state = .resync ∨ nd.state = .lost) ∧ nd.identity.typeText = t) :
    (s.setNode (nodeSlotOf l a) nd).entryName l a t = some nd.stationName := by
  unfold State.entryName State.nodeAt
  simp only [State.setNode_node, if_true]
  exact if_pos h

/-- Any other node takes the first form of its default name that no other record has (R33). -/
theorem State.entryName_fresh (h : ¬((nd.state = .resync ∨ nd.state = .lost) ∧ nd.identity.typeText = t)) {k : Nat}
    (hk : k ≤ (defaultName t l a).length) (hfree : s.nameFree (nodeSlotOf l a) (nameForm (defaultName t l a) k))
    (hfirst : ∀ j, j < k → ¬s.nameFree (nodeSlotOf l a) (nameForm (defaultName t l a) j)) :
    (s.setNode (nodeSlotOf l a) nd).entryName l a t = some (some (nameForm (defaultName t l a) k)) := by
  unfold State.entryName State.nodeAt
  simp only [State.setNode_node, if_true]
  rw [if_neg h, State.freshName_eq_some hk ((State.nameFree_setNode ..).mpr hfree) fun j hj =>
    mt (State.nameFree_setNode ..).mp (hfirst j hj)]
  rfl

theorem State.entryName_eq_none (h : ¬((nd.state = .resync ∨ nd.state = .lost) ∧ nd.identity.typeText = t))
    (htaken : ∀ k, k ≤ (defaultName t l a).length → ¬s.nameFree (nodeSlotOf l a) (nameForm (defaultName t l a) k)) :
    (s.setNode (nodeSlotOf l a) nd).entryName l a t = none := by
  unfold State.entryName State.nodeAt
  simp only [State.setNode_node, if_true]
  rw [if_neg h, State.freshName_eq_none fun k hk => mt (State.nameFree_setNode ..).mp (htaken k hk)]
  rfl

end

end Sys2Proof.Machine
end

section
/-! What an accepted PROBE answer does by the state of the node (R30 to R34, R41, R44, R47, R64, R96). -/

namespace Sys2Proof.Machine

/-! ## Newcomers (R34) -/

theorem State.setLink_setLink (s : State) (l : LinkId) (r r' : LinkRecord) :
    (s.setLink l r).setLink l r' = s.setLink l r' := by cases l <;> rfl

theorem State.clearSeqBit_setNode (s : State) (n : NodeSlot) (r : NodeRecord) (l : LinkId) (a : NodeAddr) :
    (s.setNode n r).clearSeqBit l a =
      (s.setLink l { s.link l with seqBits := (s.link l).seqBits.set a false }).setNode n r := by
  unfold State.clearSeqBit
  rw [State.setNode_link]
  cases l <;> rfl

section
variable {s : State} {l : LinkId} {a : NodeAddr} {nd : NodeRecord} {id : Identity}

/-- An identity that is not valid is refused (R31, R41). -/
theorem State.newcomer_invalid :
    (s.setNode (nodeSlotOf l a) nd).newcomer l a none =
      (s.releaseReservations (nodeSlotOf l a)).setNode (nodeSlotOf l a)
        ({ nd with identity := Identity.vacant }.refuse .badIdentity) := by
  unfold State.newcomer
  simp only [State.setNode_node, if_true, State.refuseNode_setNode]
  rfl

/-- A node that finds no free name is refused (R33, R41; log entry 11). -/
theorem State.newcomer_unnamed (hname : (s.setNode (nodeSlotOf l a) nd).entryName l a id.typeText = none) :
    (s.setNode (nodeSlotOf l a) nd).newcomer l a (some id) =
      (s.releaseReservations (nodeSlotOf l a)).setNode (nodeSlotOf l a)
        ({ nd with identity := Identity.vacant, stationName := none }.refuse .badIdentity) := by
  unfold State.newcomer
  simp only [hname, State.setNode_node, if_true, State.refuseNode_setNode]
  rfl

/-- A node that fails the hold check is refused with its identity and name (R32, R41). -/
theorem State.newcomer_slow {name : Option Text}
    (hname : (s.setNode (nodeSlotOf l a) nd).entryName l a id.typeText = some name)
    (hslow : holdCheck (s.link l) id.holdTime = false) :
    (s.setNode (nodeSlotOf l a) nd).newcomer l a (some id) =
      (s.releaseReservations (nodeSlotOf l a)).setNode (nodeSlotOf l a)
        ({ nd with identity := id, stationName := name }.refuse .cycleTooSlow) := by
  unfold State.newcomer
  simp only [hname, State.setNode_link, hslow, State.setNode_node, if_true, State.refuseNode_setNode]
  rfl

/-- Any other node is described, or published at once where it has no elements (R34, R40, R64). -/
theorem State.newcomer_described {name : Option Text}
    (hname : (s.setNode (nodeSlotOf l a) nd).entryName l a id.typeText = some name)
    (hfast : holdCheck (s.link l) id.holdTime = true) :
    (s.setNode (nodeSlotOf l a) nd).newcomer l a (some id) =
      (let u := (s.setLink l { s.link l with seqBits := (s.link l).seqBits.set a false }).setNode (nodeSlotOf l a)
        (nd.enterDescribing id name)
       if id.elementCount = 0 then u.completeDescribing (nodeSlotOf l a) else u) := by
  unfold State.newcomer
  simp only [hname, State.setNode_link, hfast, Bool.true_eq_false, if_false, State.setNode_node, if_true,
    State.setNode_setNode, State.clearSeqBit_setNode]

end

/-! ## What a taken PROBE answer is (R34, R44, R47) -/

/-- The part when a node's answer is taken as a newcomer's: the records of a node known before are retired (R44, R47). -/
def State.clearedFor (s : State) (n : NodeSlot) : State := if (s.node n).state = .vacant then s else s.retireNode n

theorem State.clearedFor_of_vacant {s : State} {n : NodeSlot} (h : (s.node n).state = .vacant) : s.clearedFor n = s :=
  if_pos h

theorem State.clearedFor_of_known {s : State} {n : NodeSlot} (h : (s.node n).state ≠ .vacant) :
    s.clearedFor n = s.retireNode n := if_neg h

theorem State.clearedFor_node (s : State) (n m : NodeSlot) : (s.clearedFor n).node m = s.node m := by
  unfold State.clearedFor
  split <;> rfl

theorem State.clearedFor_link (s : State) (n : NodeSlot) (l : LinkId) : (s.clearedFor n).link l = s.link l := by
  unfold State.clearedFor
  split
  · rfl
  · cases l <;> rfl

section
variable {s : State} {l : LinkId} {a : NodeAddr} {ans : Answer}

/-- The answer of a VACANT record, or of a node whose identity has changed, is a newcomer's. -/
theorem State.probeAnswered_newcomer
    (h : (s.nodeAt l a).state = .vacant ∨ parseIdentity ans.payload ≠ some (s.nodeAt l a).identity) :
    s.probeAnswered l a ans =
      ((s.clearedFor (nodeSlotOf l a)).setNode (nodeSlotOf l a) ((s.nodeAt l a).withStatus .probe ans)).newcomer l a
        (parseIdentity ans.payload) := by
  by_cases hvacant : (s.nodeAt l a).state = .vacant
  · rw [State.clearedFor_of_vacant hvacant]
    exact if_pos hvacant
  · rw [State.clearedFor_of_known hvacant]
    exact (if_neg hvacant).trans (if_neg (h.resolve_left hvacant))

/-- A RESYNC node whose identity is unchanged returns (R44, R96). -/
theorem State.probeAnswered_resync (hstate : (s.nodeAt l a).state = .resync)
    (hid : parseIdentity ans.payload = some (s.nodeAt l a).identity) :
    s.probeAnswered l a ans =
      ((s.setNode (nodeSlotOf l a) ((s.nodeAt l a).withStatus .probe ans)).returnNode l a).event fun _ r =>
        if r.state = .live ∧ r.nodeSlot = nodeSlotOf l a then r.resyncReturn else r := by
  have hvacant : (s.nodeAt l a).state ≠ .vacant := by simp [hstate]
  simp only [← PointRecord.liveOf_iff]
  exact (if_neg hvacant).trans ((if_pos hid).trans (if_pos hstate))

/-- A LOST node whose identity is unchanged returns if it passes the hold check (R47). -/
theorem State.probeAnswered_lost (hstate : (s.nodeAt l a).state = .lost)
    (hid : parseIdentity ans.payload = some (s.nodeAt l a).identity) :
    s.probeAnswered l a ans =
      (let u := s.setNode (nodeSlotOf l a) ((s.nodeAt l a).withStatus .probe ans)
       if holdCheck (s.link l) (s.nodeAt l a).identity.holdTime then
         (u.returnNode l a).event fun _ r =>
           if r.state = .orphaned ∧ r.nodeSlot = nodeSlotOf l a then { r with state := .live } else r
       else u.setNode (nodeSlotOf l a) { u.node (nodeSlotOf l a) with refuseReason := some .cycleTooSlow }) := by
  have hvacant : (s.nodeAt l a).state ≠ .vacant := by simp [hstate]
  have hresync : (s.nodeAt l a).state ≠ .resync := by simp [hstate]
  exact (if_neg hvacant).trans ((if_pos hid).trans (if_neg hresync))

theorem State.returnNode_setNode (s : State) (l : LinkId) (a : NodeAddr) (nd : NodeRecord) :
    (s.setNode (nodeSlotOf l a) nd).returnNode l a =
      (s.setLink l { s.link l with seqBits := (s.link l).seqBits.set a false }).setNode (nodeSlotOf l a)
        { nd with
          state := .online, incarnation := nd.incarnation + 1, failures := 0, lostCause := none, refuseReason := none } := by
  unfold State.returnNode
  simp only [State.setNode_node, if_true, State.setNode_setNode, State.clearSeqBit_setNode]

theorem PointRecord.resyncReturn_eq (x : PointRecord) :
    x.resyncReturn =
      if x.direction = .out then { x with applied := none, pending := true, quality := .safe } else x := by
  unfold PointRecord.resyncReturn
  cases hd : x.direction <;> simp [PointRecord.setApplied, PointRecord.recompute]

/-- A node's record after a taken PROBE answer (R30). -/
theorem NodeRecord.withStatus_probe (r : NodeRecord) (ans : Answer) :
    r.withStatus .probe ans = { r with freshExpected := ans.fresh, held := ans.held || r.held } := by
  obtain ⟨fresh, held, fault, payload⟩ := ans
  cases held <;> rfl

/-- The completion of an accepted PROBE answer that the node expects (R29). -/
theorem exec_probeReceived {c : Call} (status : Byte) {payload : List Byte} (hawaits : s.awaits l c a)
    (hkind : c.kind = .probe) (hlength : payload.length = 16)
    (hstate : ((s.nodeAt l a).state = .vacant ∧ (s.nodeAt l a).parkOwed = false) ∨
      (s.nodeAt l a).state = .resync ∨ (s.nodeAt l a).state = .lost) :
    exec (.answerReceived l (answerFrame a c.kind c.seqBit status payload)) s =
      .next (((s.setLink l { s.link l with call := none }).probeAnswered l a
        ⟨status.getLsbD 0, status.getLsbD 1, status.getLsbD 2, payload⟩).proceed l) := by
  have hfits : c.answerFits payload.length := by unfold Call.answerFits; rw [hkind]; exact hlength
  have haccept := acceptAnswer_answerFrame status hawaits.2.2 (by omega) ((answerLengthLegal_iff c _).mpr hfits)
  have hexpected := (Call.expectedBy_probe hkind).mpr hstate
  rw [exec_answerReceived_taken hawaits haccept ((NodeRecord.takes_iff _ c).mpr hexpected), hkind]
  rfl

end

/-- Settles O51: the answer is accepted and taken; it is a newcomer's, for whom the identity is valid or not, a name free or not and the hold
check passed or not, or that of a node that returns. -/
theorem probeAnswersAreTaken : Obligations.ProbeAnswersAreTaken := by
  intro s l c a status type unit sig count inLen outLen hold hawaits hkind htype field payload received r n nd
    id sized valid invalid fast name form free keeps named done reset base refused vacant known
  have hfield : field.length = 4 := by simp [field]; omega
  have hnode : done.nodeAt l a = s.node n := by simp [done, State.nodeAt, n]
  have hlink : done.link l = { r with call := none } := by simp [done]
  have hbase : done.clearedFor n = base := by unfold State.clearedFor; rw [show done.node n = s.node n from hnode]
  have hbaseLink : base.link l = { r with call := none } := by rw [← hbase, State.clearedFor_link, hlink]
  have hfree (f : Text) : base.nameFree n f ↔ free f :=
    State.nameFree_congr (fun m _ => by rw [← hbase, State.clearedFor_node]; simp [done]) f
  have hstatus : (done.nodeAt l a).withStatus .probe
      ⟨status.getLsbD 0, status.getLsbD 1, status.getLsbD 2, payload⟩ = nd := by
    rw [NodeRecord.withStatus_probe, hnode]
  have hfast (link : LinkRecord) (h : link = { r with call := none }) : holdCheck link (10 * hold.toNat) = true ↔ fast := by
    rw [h, holdCheck_iff]
  have hreceived (h : vacant ∨ known) : received = .next ((done.probeAnswered l a
      ⟨status.getLsbD 0, status.getLsbD 1, status.getLsbD 2, payload⟩).proceed l) :=
    exec_probeReceived status hawaits hkind (by simp [payload, hfield, le32]) h
  have hnewcomer (h : vacant ∨ known) (hnew : nd.state = .vacant ∨ parseIdentity payload ≠ some nd.identity) :
      received = .next (((base.setNode n nd).newcomer l a (parseIdentity payload)).proceed l) := by
    rw [← hstatus, ← hbase, hreceived h]
    refine next_proceed_congr (State.probeAnswered_newcomer ?_)
    rw [hnode]
    exact hnew
  have hcount : id.elementCount = 0 ↔ count = 0 := ⟨fun h => BitVec.eq_of_toNat_eq h, fun h => congrArg BitVec.toNat h⟩
  have hparse (h : valid) : parseIdentity payload = some id :=
    parseIdentity_of_sized hfield (typeTextOf_padded _ h.2.1 (List.length_pos_iff.mp h.1)) h.2.2
  refine ⟨fun hstate hinvalid => ?_, fun hvalid hnew => ?_, fun hvalid hid => ?_⟩
  · have hparse : parseIdentity payload = none := parseIdentity_of_invalid hfield hinvalid
    rw [hnewcomer hstate (.inr (by rw [hparse]; nofun)), hparse]
    exact next_proceed_congr State.newcomer_invalid
  · have hrun := hnewcomer (hnew.imp_right And.left)
      (hnew.imp And.left fun h => by rw [hparse hvalid]; exact fun he => h.2 (Option.some.inj he).symm)
    rw [hparse hvalid] at hrun
    have hkeeps : keeps ↔ (nd.state = .resync ∨ nd.state = .lost) ∧ nd.identity.typeText = id.typeText := by
      refine and_congr_left' ⟨fun h => (hnew.resolve_left fun hv => h hv.1).1, fun h => ?_⟩
      obtain h | h := h <;> simp [h]
    have hname (nm : Option Text) (h : named nm) : (base.setNode n nd).entryName l a id.typeText = some nm := by
      obtain ⟨hk, rfl⟩ | ⟨hk, k, hle, rfl, hfirst, hlower⟩ := h
      · exact State.entryName_keeps (hkeeps.mp hk)
      · exact State.entryName_fresh (mt hkeeps.mpr hk) hle ((hfree _).mpr hfirst) fun j hj => mt (hfree _).mp (hlower j hj)
    refine ⟨fun nm hnamed hpass => ?_, fun nm hnamed hslow => ?_, fun hk htaken => ?_⟩
    · rw [hrun, State.newcomer_described (hname nm hnamed) ((hfast _ hbaseLink).mpr hpass)]
      have hreset : base.setLink l { base.link l with seqBits := (base.link l).seqBits.set a false } = base.setLink l reset := by
        rw [hbaseLink]
      rw [hreset]
      exact next_proceed_congr (if_congr hcount rfl rfl)
    · rw [hrun]
      exact next_proceed_congr
        (State.newcomer_slow (hname nm hnamed) (Bool.eq_false_iff.mpr (mt (hfast _ hbaseLink).mp hslow)))
    · rw [hrun]
      exact next_proceed_congr (State.newcomer_unnamed
        (State.entryName_eq_none (mt hkeeps.mpr hk) fun k hle => mt (hfree _).mp (htaken k hle)))
  · have hparse : parseIdentity payload = some (done.nodeAt l a).identity := by
      rw [hparse hvalid, ← hid, hnode]
    intro back
    have hback : (done.setNode n nd).returnNode l a = (s.setLink l reset).setNode n back := by
      rw [State.returnNode_setNode, hlink, State.setLink_setLink]
    have hhold : (done.nodeAt l a).identity.holdTime = 10 * hold.toNat := by
      rw [hnode]
      exact congrArg Identity.holdTime hid
    refine ⟨fun hresync => ?_, fun hlost hpass => ?_, fun hlost hslow => ?_⟩
    · rw [hreceived (.inr (.inl hresync)), State.probeAnswered_resync (by rw [hnode]; exact hresync) hparse, hstatus, hback]
      refine next_proceed_congr (State.event_congr fun i => ?_)
      rw [PointRecord.resyncReturn_eq, ← ite_and]
      exact if_congr and_assoc rfl rfl
    · rw [hreceived (.inr (.inr hlost)), State.probeAnswered_lost (by rw [hnode]; exact hlost) hparse, hstatus, hhold]
      exact next_proceed_congr ((if_pos ((hfast _ hlink).mpr hpass)).trans (by rw [hback]))
    · rw [hreceived (.inr (.inr hlost)), State.probeAnswered_lost (by rw [hnode]; exact hlost) hparse, hstatus, hhold]
      refine next_proceed_congr ((if_neg (mt (hfast _ hlink).mp hslow)).trans ?_)
      rw [State.setNode_setNode, State.setNode_node, if_pos rfl]

end Sys2Proof.Machine
end

section
/-! The law of an OFF link (R58, R71, R80): only START_LINK, STOP_LINK, the end of a link stop and a reset move a link between its states. Every
other operation leaves an OFF link without a call and without engaged nodes, and starts no timer of a link that is not RUNNING. -/

namespace Sys2Proof.Machine

/-- The states that no node of an OFF link is in (R58). -/
def NodeState.engaged (st : NodeState) : Prop := st = .describing ∨ st = .online ∨ st = .resync

/-- The link is not OFF. -/
def State.linkActive (s : State) (l : LinkId) : Prop := (s.link l).state ≠ .off

theorem linkOfSlot_nodeSlotOf (l : LinkId) (a : NodeAddr) : linkOfSlot (nodeSlotOf l a) = l := by
  have ha := a.isLt
  unfold linkOfSlot nodeSlotOf
  cases l with
  | l0 => exact if_pos ha
  | l1 => exact if_neg (by simp)

theorem linkLaw_iff (s : State) :
    LinkLaw s ↔ ∀ l, ((s.link l).state ≠ .running → (s.link l).cycleTimer = none) ∧
      ((s.link l).state = .off → (s.link l).call = none ∧ ∀ a, ¬(s.nodeAt l a).state.engaged) := by
  simp only [LinkLaw, NodeState.engaged, not_or, Ne]

/-! ## Operations that keep the state of every link -/

/-- Every link keeps its state, an OFF link stays without a call and gains no engaged node, and a timer starts on a RUNNING link only. -/
structure State.KeepsLinkStates (s t : State) : Prop where
  state : ∀ l, (t.link l).state = (s.link l).state
  timer : ∀ l, (s.link l).state ≠ .running → (s.link l).cycleTimer = none → (t.link l).cycleTimer = none
  call : ∀ l, (s.link l).state = .off → (s.link l).call = none → (t.link l).call = none
  engaged : ∀ n, (s.link (linkOfSlot n)).state = .off → (t.node n).state.engaged → (s.node n).state.engaged

namespace State.KeepsLinkStates

theorem law {s t : State} (h : s.KeepsLinkStates t) (hs : LinkLaw s) : LinkLaw t := by
  refine (linkLaw_iff t).mpr fun l => ?_
  obtain ⟨htimer, hoff⟩ := (linkLaw_iff s).mp hs l
  rw [h.state l]
  refine ⟨fun hst => h.timer l hst (htimer hst), fun hst => ?_⟩
  obtain ⟨hcall, hnodes⟩ := hoff hst
  exact ⟨h.call l hst hcall, fun a ha => hnodes a (h.engaged _ (by rwa [linkOfSlot_nodeSlotOf]) ha)⟩

theorem active {s t : State} (h : s.KeepsLinkStates t) {l : LinkId} (hs : s.linkActive l) : t.linkActive l := by
  unfold State.linkActive
  rw [h.state l]
  exact hs

theorem trans {s t u : State} (h : s.KeepsLinkStates t) (h' : t.KeepsLinkStates u) : s.KeepsLinkStates u where
  state l := (h'.state l).trans (h.state l)
  timer l hst hs := h'.timer l (by rwa [h.state]) (h.timer l hst hs)
  call l hst hs := h'.call l (by rwa [h.state]) (h.call l hst hs)
  engaged n hst hu := h.engaged n hst (h'.engaged n (by rwa [h.state]) hu)

theorem of_eq {s t : State} (hnodes : t.nodes = s.nodes) (h0 : t.link0 = s.link0) (h1 : t.link1 = s.link1) :
    s.KeepsLinkStates t := by
  have hlink (l : LinkId) : t.link l = s.link l := by
    cases l
    · exact h0
    · exact h1
  have hnode (n : NodeSlot) : t.node n = s.node n := by unfold State.node; rw [hnodes]
  exact ⟨fun l => by rw [hlink], fun l _ hs => by rwa [hlink], fun l _ hs => by rwa [hlink], fun n _ ht => by rwa [← hnode]⟩

theorem refl (s : State) : s.KeepsLinkStates s := of_eq rfl rfl rfl

theorem setPort (s : State) (p : PortId) (r : PortRecord) : s.KeepsLinkStates (s.setPort p r) :=
  of_eq (by simp) (by simp) (by simp)

theorem finishGrant (s : State) (p : PortId) (r : Response) : s.KeepsLinkStates (s.finishGrant p r) :=
  (setPort s p _).trans (of_eq rfl rfl rfl)

theorem setPending (s : State) (q : List Instr) : s.KeepsLinkStates (s.setPending q) := of_eq rfl rfl rfl

theorem updatePoints (s : State) (g : DirSlot → PointRecord → PointRecord) : s.KeepsLinkStates (s.updatePoints g) :=
  of_eq rfl rfl rfl

theorem event (s : State) (f : DirSlot → PointRecord → PointRecord) : s.KeepsLinkStates (s.event f) := updatePoints s _

theorem setLink {s : State} {l : LinkId} {r : LinkRecord} (hstate : r.state = (s.link l).state)
    (htimer : (s.link l).state ≠ .running → (s.link l).cycleTimer = none → r.cycleTimer = none)
    (hcall : (s.link l).state = .off → (s.link l).call = none → r.call = none) : s.KeepsLinkStates (s.setLink l r) where
  state l' := by
    rw [State.setLink_link]
    split
    · rename_i hl; rw [hl, hstate]
    · rfl
  timer l' := by
    rw [State.setLink_link]
    split
    · rename_i hl; rw [hl]; exact htimer
    · exact fun _ h => h
  call l' := by
    rw [State.setLink_link]
    split
    · rename_i hl; rw [hl]; exact hcall
    · exact fun _ h => h
  engaged n _ := by rw [State.setLink_node]; exact id

/-- An update of a link's record that leaves its state, its timer and its call. -/
theorem setLink_same {s : State} {l : LinkId} {r : LinkRecord} (hstate : r.state = (s.link l).state)
    (htimer : r.cycleTimer = (s.link l).cycleTimer) (hcall : r.call = (s.link l).call) :
    s.KeepsLinkStates (s.setLink l r) :=
  setLink hstate (fun _ h => htimer.trans h) (fun _ h => hcall.trans h)

/-- An update of the record of a link that is not OFF, which leaves its state and its timer. -/
theorem setLink_active {s : State} {l : LinkId} {r : LinkRecord} (hl : s.linkActive l)
    (hstate : r.state = (s.link l).state) (htimer : r.cycleTimer = (s.link l).cycleTimer) :
    s.KeepsLinkStates (s.setLink l r) :=
  setLink hstate (fun _ h => htimer.trans h) (fun h => absurd h hl)

/-- An update of the record of a RUNNING link, which leaves it RUNNING. -/
theorem setLink_running {s : State} {l : LinkId} {r : LinkRecord} (hl : (s.link l).state = .running)
    (hstate : r.state = .running) : s.KeepsLinkStates (s.setLink l r) :=
  setLink (hstate.trans hl.symm) (fun h => absurd hl h) (fun h => by rw [hl] at h; cases h)

/-- A node becomes engaged on a link that is not OFF only. -/
theorem setNode {s : State} {n : NodeSlot} {r : NodeRecord}
    (h : (s.link (linkOfSlot n)).state = .off → r.state.engaged → (s.node n).state.engaged) :
    s.KeepsLinkStates (s.setNode n r) where
  state l := by rw [State.setNode_link]
  timer l _ := by rw [State.setNode_link]; exact id
  call l _ := by rw [State.setNode_link]; exact id
  engaged m hm := by
    rw [State.setNode_node]
    split
    · rename_i hmn; rw [hmn] at hm ⊢; exact h hm
    · exact id

/-- A node of a link that is not OFF may take any record. -/
theorem setNode_active {s : State} {n : NodeSlot} (hl : s.linkActive (linkOfSlot n)) (r : NodeRecord) :
    s.KeepsLinkStates (s.setNode n r) := setNode fun h => absurd h hl

/-- A node of any link may become VACANT, REFUSED or PARKED. -/
theorem setNode_idle {s : State} {n : NodeSlot} {r : NodeRecord} (h : r.idle) : s.KeepsLinkStates (s.setNode n r) :=
  setNode fun _ hr => by
    obtain h | h | h := h <;> simp [NodeState.engaged, h] at hr

theorem setNode_same {s : State} {n : NodeSlot} {r : NodeRecord} (h : r.state = (s.node n).state) :
    s.KeepsLinkStates (s.setNode n r) := setNode fun _ hr => h ▸ hr

theorem mapNodes {s : State} {f : NodeSlot → NodeRecord → NodeRecord}
    (h : ∀ n, (f n (s.node n)).state.engaged → (s.node n).state.engaged) : s.KeepsLinkStates (s.mapNodes f) where
  state l := by rw [State.mapNodes_link]
  timer l _ := by rw [State.mapNodes_link]; exact id
  call l _ := by rw [State.mapNodes_link]; exact id
  engaged n _ := by rw [State.mapNodes_node]; exact h n

/-! ## The operations of the directory and of the node table -/

theorem retireNode (s : State) (n : NodeSlot) : s.KeepsLinkStates (s.retireNode n) := of_eq rfl rfl rfl

theorem releaseReservations (s : State) (n : NodeSlot) : s.KeepsLinkStates (s.releaseReservations n) := updatePoints s _

theorem publish (s : State) (n : NodeSlot) : s.KeepsLinkStates (s.publish n) := of_eq rfl rfl rfl

theorem loseNodes (s : State) (sel : NodeSlot → Bool) (cause : LostCause) : s.KeepsLinkStates (s.loseNodes sel cause) := by
  refine (mapNodes fun n => ?_).trans (event _ _)
  split
  · intro hlost
    simp [NodeState.engaged, NodeRecord.lose] at hlost
  · exact id

section
variable {s : State} {n : NodeSlot}

theorem refuseNode (r : NodeRecord) (why : RefuseReason) : s.KeepsLinkStates (s.refuseNode n r why) :=
  (releaseReservations s n).trans (setNode_idle (.inr (.inl rfl)))

theorem completeDescribing (hl : s.linkActive (linkOfSlot n)) : s.KeepsLinkStates (s.completeDescribing n) :=
  (publish s n).trans (setNode_active ((publish s n).active hl) _)

theorem clearSeqBit (s : State) (l : LinkId) (a : NodeAddr) : s.KeepsLinkStates (s.clearSeqBit l a) :=
  setLink_same rfl rfl rfl

theorem advanceCursor (hl : s.linkActive (linkOfSlot n)) : s.KeepsLinkStates (s.advanceCursor n) := by
  have hcursor (r) : s.KeepsLinkStates (s.setNode n r) := setNode_active hl r
  unfold State.advanceCursor
  dsimp only
  split
  · exact (hcursor _).trans (completeDescribing ((hcursor _).active hl))
  · exact hcursor _

theorem placeElement (hl : s.linkActive (linkOfSlot n)) (d : Descriptor) : s.KeepsLinkStates (s.placeElement n d) := by
  have hpacked (r) : s.KeepsLinkStates (s.setNode n r) := setNode_active hl r
  unfold State.placeElement
  dsimp only
  split
  · exact refuseNode _ _
  split
  · exact (hpacked _).trans (advanceCursor ((hpacked _).active hl))
  split
  · exact refuseNode _ _
  · have hreserved (r g) := (hpacked r).trans (updatePoints _ g)
    exact (hreserved _ _).trans (advanceCursor ((hreserved _ _).active hl))

theorem describeAnswered (hl : s.linkActive (linkOfSlot n)) (ans : Answer) :
    s.KeepsLinkStates (s.describeAnswered n ans) := by
  have hreleased := releaseReservations s n
  have hanswered (r) : s.KeepsLinkStates (s.setNode n r) := setNode_active hl r
  unfold State.describeAnswered
  dsimp only
  split
  · exact hreleased.trans (setNode_active (hreleased.active hl) _)
  split
  · split
    · exact (hanswered _).trans (placeElement ((hanswered _).active hl) _)
    · exact refuseNode _ _
  · exact refuseNode _ _

theorem describeFailed (hl : s.linkActive (linkOfSlot n)) (l : LinkId) : s.KeepsLinkStates (s.describeFailed l n) := by
  unfold State.describeFailed
  dsimp only
  split
  · exact (releaseReservations s n).trans (setNode_idle (.inl rfl))
  · exact setNode_active hl _

theorem enterResync (hl : s.linkActive (linkOfSlot n)) (r : NodeRecord) : s.KeepsLinkStates (s.enterResync n r) :=
  (setNode_active hl _).trans (updatePoints _ _)

theorem exchangeAnswered (hl : s.linkActive (linkOfSlot n)) (ans : Answer) :
    s.KeepsLinkStates (s.exchangeAnswered n ans) := by
  unfold State.exchangeAnswered
  dsimp only
  split
  · exact enterResync hl _
  · exact (setNode_active hl _).trans (event _ _)

theorem clearHoldAnswered (hl : s.linkActive (linkOfSlot n)) (ans : Answer) :
    s.KeepsLinkStates (s.clearHoldAnswered n ans) := by
  unfold State.clearHoldAnswered
  dsimp only
  split
  · exact enterResync hl _
  · exact (setNode_active hl _).trans (event _ _)

theorem exchangeFailed (hl : s.linkActive (linkOfSlot n)) (l : LinkId) : s.KeepsLinkStates (s.exchangeFailed l n) :=
  (setNode_active hl _).trans (event _ _)

end

section
variable {s : State} {l : LinkId} {a : NodeAddr}

theorem newcomer (hl : s.linkActive (linkOfSlot (nodeSlotOf l a))) (id : Option Identity) :
    s.KeepsLinkStates (s.newcomer l a id) := by
  have hentered (r) : s.KeepsLinkStates ((s.setNode (nodeSlotOf l a) r).clearSeqBit l a) :=
    (setNode_active hl r).trans (clearSeqBit _ l a)
  unfold State.newcomer
  dsimp only
  split
  · exact refuseNode _ _
  split
  · exact refuseNode _ _
  split
  · exact refuseNode _ _
  split
  · exact (hentered _).trans (completeDescribing ((hentered _).active hl))
  · exact hentered _

theorem returnNode (hl : s.linkActive (linkOfSlot (nodeSlotOf l a))) : s.KeepsLinkStates (s.returnNode l a) :=
  (setNode_active hl _).trans (clearSeqBit _ l a)

theorem probeAnswered (hl : s.linkActive (linkOfSlot (nodeSlotOf l a))) (ans : Answer) :
    s.KeepsLinkStates (s.probeAnswered l a ans) := by
  have hstatus := setNode_active hl ((s.node (nodeSlotOf l a)).withStatus .probe ans)
  have hreturned := hstatus.trans (returnNode (hstatus.active hl))
  have hretired := hstatus.trans (retireNode _ (nodeSlotOf l a))
  unfold State.probeAnswered
  dsimp only
  split
  · exact hstatus.trans (newcomer (hstatus.active hl) _)
  split
  · split
    · exact hreturned.trans (event _ _)
    split
    · exact hreturned.trans (event _ _)
    · exact hstatus.trans (setNode_active (hstatus.active hl) _)
  · exact hretired.trans (newcomer (hretired.active hl) _)

theorem probeFailed (hl : s.linkActive (linkOfSlot (nodeSlotOf l a))) : s.KeepsLinkStates (s.probeFailed l a) := by
  unfold State.probeFailed
  dsimp only
  split
  · split
    · exact loseNodes _ _ _
    · exact setNode_active hl _
  · exact refl s

theorem takeCompletion (hl : s.linkActive (linkOfSlot (nodeSlotOf l a))) (kind : CallKind) (ans : Option Answer) :
    s.KeepsLinkStates (s.takeCompletion l a kind ans) := by
  cases kind with
  | probe => cases ans with
    | none => exact probeFailed hl
    | some ans => exact probeAnswered hl ans
  | describe => cases ans with
    | none => exact describeFailed hl l
    | some ans => exact describeAnswered hl ans
  | exchange => cases ans with
    | none => exact exchangeFailed hl l
    | some ans => exact exchangeAnswered hl ans
  | clearHold => cases ans with
    | none => exact exchangeFailed hl l
    | some ans => exact clearHoldAnswered hl ans
  | park => exact setNode_same rfl

end

theorem discardCompletion (s : State) (n : NodeSlot) (kind : CallKind) : s.KeepsLinkStates (s.discardCompletion n kind) := by
  unfold State.discardCompletion
  split
  · exact updatePoints _ _
  · exact refl s

/-! ## The link engines -/

section
variable {s : State} {l : LinkId}

theorem settleCycle (s : State) (l : LinkId) : s.KeepsLinkStates (s.settleCycle l) := setLink_same rfl rfl rfl

theorem startCycle (hl : (s.link l).state = .running) : s.KeepsLinkStates (s.startCycle l) := by
  have hstarted : s.KeepsLinkStates (s.setLink l ((s.link l).startCycle (s.onlineAddrs l))) := setLink_running hl hl
  exact hstarted.trans (settleCycle _ l)

theorem proceed (s : State) (l : LinkId) : s.KeepsLinkStates (s.proceed l) := by
  unfold State.proceed
  split
  · rename_i hl
    split
    · exact refl s
    split
    · exact startCycle hl
    · exact settleCycle s l
  · exact refl s

theorem cycleExpiry (hl : (s.link l).state = .running) : s.KeepsLinkStates (s.cycleExpiry l) := by
  have hlate : s.KeepsLinkStates (s.setLink l (s.link l).lateExpiry) := setLink_running hl hl
  unfold State.cycleExpiry
  dsimp only
  split
  · exact startCycle hl
  split
  · exact hlate
  · exact hlate.trans (proceed _ l)

theorem completeCall (hl : s.linkActive l) (c : Call) (a : NodeAddr) (ans : Option Answer) :
    s.KeepsLinkStates (s.completeCall l c a ans) := by
  have hfields (r : LinkRecord) : (r.countFailure c).state = r.state ∧ (r.countFailure c).cycleTimer = r.cycleTimer := by
    unfold LinkRecord.countFailure
    split
    · exact ⟨rfl, rfl⟩
    · exact ⟨rfl, rfl⟩
  have hended : s.KeepsLinkStates (s.setLink l ((s.link l).endCall c ans)) := by
    cases ans with
    | some ans => exact setLink_active hl rfl rfl
    | none => exact setLink_active hl (hfields _).1 (hfields _).2
  have hl' := hended.active hl
  unfold State.completeCall
  dsimp only
  refine trans ?_ (proceed _ l)
  split
  · exact hended.trans (takeCompletion (by rwa [linkOfSlot_nodeSlotOf]) _ _)
  · exact hended.trans (discardCompletion _ _ _)

theorem placeCall (hl : s.linkActive l) (a : NodeAddr) (kind : CallKind) (payload : List Byte) :
    s.KeepsLinkStates (s.placeCall l a kind payload) := setLink_active hl rfl rfl

theorem buildExchange (hl : s.linkActive l) (a : NodeAddr) : s.KeepsLinkStates (s.buildExchange l a) := by
  have hsnapshot : s.KeepsLinkStates (s.takeSnapshot (nodeSlotOf l a)) := updatePoints s _
  unfold State.buildExchange
  dsimp only
  split
  · exact placeCall hl _ _ _
  · exact hsnapshot.trans (placeCall (hsnapshot.active hl) _ _ _)

theorem buildService (hl : s.linkActive l) (c : ServiceClass) (a : NodeAddr) : s.KeepsLinkStates (s.buildService l c a) := by
  have hfields : ((s.link l).moveCursor c a).state = (s.link l).state ∧
      ((s.link l).moveCursor c a).cycleTimer = (s.link l).cycleTimer := by cases c <;> exact ⟨rfl, rfl⟩
  have hcounted : s.KeepsLinkStates (s.setLink l
      { (s.link l).moveCursor c a with serviceStarted := ((s.link l).moveCursor c a).serviceStarted + 1 }) :=
    setLink_active hl hfields.1 hfields.2
  have hplaced (kind payload) := hcounted.trans (placeCall (hcounted.active hl) a kind payload)
  cases c with
  | owedPark => exact hplaced _ _
  | resync => exact hplaced _ _
  | describe => exact hplaced _ _
  | lost => exact hplaced _ _
  | vacant => exact hplaced _ _

theorem buildNext (hl : s.linkActive l) : s.KeepsLinkStates (s.buildNext l) := by
  have hlist (left : List NodeAddr) : s.KeepsLinkStates (s.setLink l { s.link l with exchangeList := left }) :=
    setLink_same rfl rfl rfl
  unfold State.buildNext
  split
  · exact (hlist _).trans (buildExchange ((hlist _).active hl) _)
  split
  · split
    · exact (hlist _).trans (buildService ((hlist _).active hl) _ _)
    · exact proceed s l
  · exact proceed s l

theorem callBuild (s : State) (l : LinkId) : s.KeepsLinkStates (s.callBuild l) := by
  unfold State.callBuild
  dsimp only
  split
  · exact refl s
  split
  · exact refl s
  · rename_i hrunning
    split
    · exact refl s
    · exact buildNext (by simp [State.linkActive, hrunning])
  · rename_i hstopping
    exact setLink_active (by simp [State.linkActive, hstopping]) rfl rfl

end

theorem tick (s : State) (l : LinkId) : s.KeepsLinkStates (s.setLink l (s.link l).tick) :=
  setLink rfl (fun _ h => by simp [LinkRecord.tick, h]) fun _ => id

theorem clockTick (s : State) : s.KeepsLinkStates s.clockTick := by
  have hlapsed : s.KeepsLinkStates ((s.releaseMembers s.expiringMembers).mapLeases fun _ r => r.tick) := of_eq rfl rfl rfl
  exact (hlapsed.trans (tick _ .l0)).trans (tick _ .l1)

/-! ## The requests

The rules of the requests on values, leases and watches change point records, lease records and ports alone, in every branch. -/

theorem writePoints (p : PortId) (a : (Nat × Nat) × List (Nat × Word32)) (s : State) :
    s.KeepsLinkStates (writePoints p a s).1 := by
  unfold Machine.writePoints
  dsimp only
  repeat' split
  all_goals exact of_eq rfl rfl rfl

theorem setSafePoint (p : PortId) (a : (Nat × Nat) × Nat × Word32) (s : State) :
    s.KeepsLinkStates (setSafePoint p a s).1 := by
  unfold Machine.setSafePoint
  repeat' split
  all_goals exact of_eq rfl rfl rfl

theorem substitutePoint (p : PortId) (a : Nat × Word32) (s : State) : s.KeepsLinkStates (substitutePoint p a s).1 := by
  unfold Machine.substitutePoint
  repeat' split
  all_goals exact of_eq rfl rfl rfl

theorem unsubstitutePoint (p : PortId) (h : Nat) (s : State) : s.KeepsLinkStates (unsubstitutePoint p h s).1 := by
  unfold Machine.unsubstitutePoint
  repeat' split
  all_goals exact of_eq rfl rfl rfl

theorem openLease (p : PortId) (term : Nat) (s : State) : s.KeepsLinkStates (openLease p term s).1 := by
  unfold Machine.openLease
  repeat' split
  all_goals exact of_eq rfl rfl rfl

theorem claimLease (p : PortId) (a : (Nat × Nat) × List Nat) (s : State) : s.KeepsLinkStates (claimLease p a s).1 := by
  unfold Machine.claimLease
  repeat' split
  all_goals exact of_eq rfl rfl rfl

theorem releaseLease (p : PortId) (a : (Nat × Nat) × List Nat) (s : State) : s.KeepsLinkStates (releaseLease p a s).1 := by
  unfold Machine.releaseLease
  repeat' split
  all_goals exact of_eq rfl rfl rfl

theorem renewLease (p : PortId) (h : Nat × Nat) (s : State) : s.KeepsLinkStates (renewLease p h s).1 := by
  unfold Machine.renewLease
  dsimp only
  repeat' split
  all_goals exact of_eq rfl rfl rfl

theorem closeLeaseRule (p : PortId) (h : Nat × Nat) (s : State) : s.KeepsLinkStates (closeLeaseRule p h s).1 := by
  unfold Machine.closeLeaseRule
  split
  all_goals exact of_eq rfl rfl rfl

theorem revokeLease (p : PortId) (h : Nat × Nat) (s : State) : s.KeepsLinkStates (revokeLease p h s).1 := by
  unfold Machine.revokeLease
  repeat' split
  all_goals exact of_eq rfl rfl rfl

theorem eachEntry {α : Type} {act : State → α → State × Result} (h : ∀ (s : State) a, s.KeepsLinkStates (act s a).1)
    (s : State) (as : List α) : s.KeepsLinkStates (eachEntry act s as).1 := by
  induction as generalizing s with
  | nil => exact refl s
  | cons a rest ih => exact (h s a).trans (ih _)

theorem entriesRequest {α : Type} {act : PortId → State → α → State × Result}
    (h : ∀ p (s : State) a, s.KeepsLinkStates (act p s a).1) (p : PortId) (as : List α) (s : State) :
    s.KeepsLinkStates (entriesRequest act p as s).1 := by
  unfold Machine.entriesRequest
  split
  · exact refl s
  · exact eachEntry (h p) s as

theorem watchEntry (p : PortId) (s : State) (h : Nat) : s.KeepsLinkStates (watchEntry p s h).1 := by
  unfold Machine.watchEntry
  split
  all_goals exact of_eq rfl rfl rfl

theorem unwatchEntry (p : PortId) (s : State) (h : Nat) : s.KeepsLinkStates (unwatchEntry p s h).1 := by
  unfold Machine.unwatchEntry
  split
  all_goals exact of_eq rfl rfl rfl

theorem ackEntry (p : PortId) (s : State) (a : Nat × BitVec 16) : s.KeepsLinkStates (ackEntry p s a).1 := by
  unfold Machine.ackEntry
  repeat' split
  all_goals exact of_eq rfl rfl rfl

theorem setDeadband (p : PortId) (a : Nat × Nat) (s : State) : s.KeepsLinkStates (setDeadband p a s).1 := by
  unfold Machine.setDeadband
  repeat' split
  all_goals exact of_eq rfl rfl rfl

theorem closeSession (s : State) (p : PortId) : s.KeepsLinkStates (s.closeSession p) := by
  have hreleased (f h g) : s.KeepsLinkStates (((s.event f).mapLeases h).updatePoints g) := of_eq rfl rfl rfl
  exact (hreleased _ _ _).trans (setPort _ p _)

theorem openSession (p : PortId) (u : Unit) (s : State) : s.KeepsLinkStates (openSession p u s).1 := by
  unfold Machine.openSession
  dsimp only
  split
  · exact (closeSession s p).trans (setPort _ _ _)
  · exact setPort _ _ _

theorem setAttention (p : PortId) (a : Nat × Nat) (s : State) : s.KeepsLinkStates (setAttention p a s).1 := by
  unfold Machine.setAttention
  split
  · exact refl s
  · exact setPort _ _ _

theorem nextChanges (p : PortId) (u : Unit) (s : State) : s.KeepsLinkStates (nextChanges p u s).1 := setPort _ _ _

theorem withdrawNode (s : State) (n : NodeSlot) : s.KeepsLinkStates (s.withdrawNode n) := by
  unfold State.withdrawNode
  split
  · exact retireNode s n
  split
  · exact releaseReservations s n
  · exact refl s

theorem onNodeSlot {act : NodeSlot → State → State × Response} (h : ∀ n (s : State), s.KeepsLinkStates (act n s).1)
    (p : PortId) (n : Nat) (s : State) : s.KeepsLinkStates (onNodeSlot act p n s).1 := by
  unfold Machine.onNodeSlot
  split
  · exact h _ s
  · exact refl s

theorem nameNode (p : PortId) (a : Nat × Text) (s : State) : s.KeepsLinkStates (nameNode p a s).1 := by
  unfold Machine.nameNode
  dsimp only
  split
  · split
    · exact refl s
    split
    · exact refl s
    split
    · exact refl s
    split
    · exact refl s
    · have hrekeyed (n name) : s.KeepsLinkStates (s.rekey n name) := of_eq rfl rfl rfl
      exact (hrekeyed _ _).trans (setNode_same rfl)
  · exact refl s

theorem rescanNode (n : NodeSlot) (s : State) : s.KeepsLinkStates (rescanNode n s).1 := by
  unfold Machine.rescanNode
  split
  · exact setNode_idle (.inl rfl)
  · exact refl s

theorem includeNode (n : NodeSlot) (s : State) : s.KeepsLinkStates (includeNode n s).1 := by
  unfold Machine.includeNode
  split
  · exact setNode_idle (.inl rfl)
  · exact refl s

theorem excludeNode (n : NodeSlot) (s : State) : s.KeepsLinkStates (excludeNode n s).1 := by
  unfold Machine.excludeNode
  dsimp only
  split
  · exact refl s
  · exact (withdrawNode s n).trans (setNode_idle (.inr (.inr rfl)))

theorem forgetNode (n : NodeSlot) (s : State) : s.KeepsLinkStates (forgetNode n s).1 := by
  unfold Machine.forgetNode
  dsimp only
  split
  · exact refl s
  · exact (withdrawNode s n).trans (setNode_idle (.inl rfl))

theorem setLinkRule (p : PortId) (a : Nat × Byte × Nat × Nat × Nat × Nat × Nat × BitVec 16) (s : State) :
    s.KeepsLinkStates (setLinkRule p a s).1 := by
  have happlied (r : LinkRecord) (new : Settings) : (r.applySettings new).state = r.state ∧
      (r.applySettings new).cycleTimer = r.cycleTimer ∧ (r.applySettings new).call = r.call := by
    unfold LinkRecord.applySettings
    split
    · exact ⟨rfl, rfl, rfl⟩
    · exact ⟨rfl, rfl, rfl⟩
  unfold Machine.setLinkRule
  split
  · exact refl s
  split
  · exact refl s
  split
  · exact refl s
  split
  · exact refl s
  · obtain ⟨hstate, htimer, hcall⟩ := happlied (s.link _) _
    exact (setLink_same hstate htimer hcall).trans (loseNodes _ _ _)

end State.KeepsLinkStates

/-! ## Operations that move a link to another state -/

/-- A link takes another record, which is lawful with its nodes. -/
theorem LinkLaw.setLink {s : State} (h : LinkLaw s) {l : LinkId} {r : LinkRecord}
    (htimer : r.state ≠ .running → r.cycleTimer = none)
    (hoff : r.state = .off → r.call = none ∧ ∀ a, ¬(s.nodeAt l a).state.engaged) : LinkLaw (s.setLink l r) := by
  refine (linkLaw_iff _).mpr fun l' => ?_
  have hs := (linkLaw_iff s).mp h l'
  simp only [State.nodeAt, State.setLink_node, State.setLink_link]
  split
  · rename_i hl; rw [hl]; exact ⟨htimer, hoff⟩
  · exact hs

/-- START_LINK makes the link RUNNING (R79). -/
theorem LinkLaw.startLinkRule {s : State} (h : LinkLaw s) (l : LinkId) : LinkLaw (startLinkRule l s).1 := by
  unfold Machine.startLinkRule
  split
  · exact h
  · exact h
  · unfold State.startLink
    have hstarted : LinkLaw (s.setLink l (s.link l).started) := h.setLink (fun hne => absurd rfl hne) nofun
    have hcounted : (s.setLink l (s.link l).started).KeepsLinkStates ((s.setLink l (s.link l).started).mapNodes fun n r =>
        if onLinkSlot l n then { r with retryTotal := 0 } else r) :=
      .mapNodes fun n => by split <;> exact id
    refine (hcounted.trans (.startCycle ?_)).law hstarted
    rw [State.mapNodes_link, State.setLink_link, if_pos rfl]
    rfl

/-- STOP_LINK makes the link STOPPING and stops its timer (R80). -/
theorem LinkLaw.stopLinkRule {s : State} (h : LinkLaw s) (l : LinkId) : LinkLaw (stopLinkRule l s).1 := by
  unfold Machine.stopLinkRule
  split
  · exact h
  · exact h
  · exact h.setLink (fun _ => rfl) nofun

theorem State.KeepsLinkStates.stopNodes (s : State) (l : LinkId) : s.KeepsLinkStates (s.stopNodes l) := by
  refine ((loseNodes s _ _).trans (updatePoints _ _)).trans (mapNodes fun n => ?_)
  split
  · split
    · intro hvacant
      simp [NodeState.engaged, NodeRecord.vacated, NodeRecord.reset] at hvacant
    · exact id
  · exact id

/-- The end of a link stop leaves no node of the link DESCRIBING, ONLINE or RESYNC (R48). -/
theorem State.stopNodes_not_engaged (s : State) (l : LinkId) (a : NodeAddr) :
    ¬((s.stopNodes l).nodeAt l a).state.engaged := by
  have hslot : onLinkSlot l (nodeSlotOf l a) = true := by simp [onLinkSlot, linkOfSlot_nodeSlotOf]
  unfold State.nodeAt
  rw [State.stopNodes_node]
  split
  · simp [NodeState.engaged, NodeRecord.lose]
  split
  · simp [NodeState.engaged, NodeRecord.vacated, NodeRecord.reset]
  rename_i hexchanging hdescribing
  simp only [State.exchangingOn, State.describingOn, hslot, Bool.true_and, Bool.or_eq_true, beq_iff_eq] at hexchanging hdescribing
  rintro (h | h)
  · exact hdescribing h
  · exact hexchanging h

/-- The end of a link stop makes the link OFF, without a call (R81); its timer has stopped already. -/
theorem LinkLaw.endStop {s : State} (h : LinkLaw s) {l : LinkId} (hl : (s.link l).state = .stopping) :
    LinkLaw (s.endStop l) := by
  obtain ⟨htimer, -⟩ := (linkLaw_iff s).mp h l
  exact ((State.KeepsLinkStates.stopNodes s l).law h).setLink (fun _ => htimer (by simp [hl]))
    fun _ => ⟨rfl, s.stopNodes_not_engaged l⟩

/-- After a reset every link is OFF and every node VACANT (R28, R58). -/
theorem LinkLaw.of_reset {t : State} (hnodes : t.nodes = State.reset.nodes) (h0 : t.link0 = LinkRecord.reset)
    (h1 : t.link1 = LinkRecord.reset) : LinkLaw t := by
  have hlink (l : LinkId) : t.link l = LinkRecord.reset := by
    cases l
    · exact h0
    · exact h1
  refine (linkLaw_iff t).mpr fun l => ?_
  rw [hlink]
  refine ⟨fun _ => rfl, fun _ => ⟨rfl, fun a => ?_⟩⟩
  have hnode : t.nodeAt l a = State.reset.node (nodeSlotOf l a) := by unfold State.nodeAt State.node; rw [hnodes]
  rw [hnode, State.reset_node]
  simp [NodeState.engaged, NodeRecord.reset]

/-! ## Every command -/

theorem LinkLaw.grantOf {α : Type} {s : State} (h : LinkLaw s) {mine : Byte → Bool} {pol : Policy}
    {form : List Byte → Option α} {act : PortId → α → State → State × Response}
    (hact : ∀ p a, LinkLaw (act p a s).1) : LinkLaw (s.grantOf mine pol form act) :=
  State.grantOf_keeps LinkLaw h (fun _ _ _ hu => (State.KeepsLinkStates.finishGrant _ _ _).law hu) fun p a _ _ _ _ => hact p a

/-- The grant of a request whose rule keeps the state of every link. -/
theorem LinkLaw.grant {α : Type} {s : State} (h : LinkLaw s) {code : Byte} {pol : Policy} {form : List Byte → Option α}
    {act : PortId → α → State → State × Response} (hact : ∀ p a (s : State), s.KeepsLinkStates (act p a s).1) :
    LinkLaw (s.grant code pol form act) := h.grantOf fun p a => (hact p a s).law h

theorem LinkLaw.grant_reading {α : Type} {s : State} (h : LinkLaw s) {code : Byte} {pol : Policy}
    {form : List Byte → Option α} {f : PortId → α → State → Response} :
    LinkLaw (s.grant code pol form (reading f)) := h.grantOf fun _ _ => h

/-- The grant of a request on a link number (ch. 3.7). -/
theorem LinkLaw.grant_onLinkNumber {s : State} (h : LinkLaw s) {code : Byte} {pol : Policy}
    {form : List Byte → Option Nat} {act : LinkId → State → State × Response} (hact : ∀ l, LinkLaw (act l s).1) :
    LinkLaw (s.grant code pol form (onLinkNumber act)) :=
  h.grantOf fun _ _ => by
    unfold onLinkNumber
    split
    · exact hact _
    · exact h

/-- A call is in flight on links that are not OFF only. -/
theorem LinkLaw.active_of_call {s : State} (h : LinkLaw s) {l : LinkId} (hcall : (s.link l).call ≠ none) : s.linkActive l :=
  fun hoff => hcall (((linkLaw_iff s).mp h l).2 hoff).1

theorem LinkLaw.active_of_awaited {s : State} (h : LinkLaw s) {l : LinkId} {e : Call × NodeAddr}
    (hawaited : (s.link l).awaited = some e) : s.linkActive l :=
  h.active_of_call fun hcall => by simp [LinkRecord.awaited, hcall] at hawaited

theorem LinkLaw.attemptFails {s : State} (h : LinkLaw s) (l : LinkId) : LinkLaw (s.attemptFails l) := by
  unfold State.attemptFails
  split
  · exact h
  rename_i hawaited
  have hl := h.active_of_awaited hawaited
  split
  · exact (State.KeepsLinkStates.completeCall hl _ _ _).law h
  · refine State.KeepsLinkStates.law (.setLink_active hl ?_ ?_) h
    · rfl
    · rfl

theorem LinkLaw.attemptRetry {s t : State} (h : LinkLaw s) {l : LinkId} (hexec : execAttemptRetry l s = .next t) :
    LinkLaw t := by
  cases hexec
  split
  · exact h
  rename_i hcall
  have hl : s.linkActive l := h.active_of_call (by simp [hcall])
  split
  · exact h
  split
  · exact h
  · have hsent (call) : s.KeepsLinkStates (s.setLink l { s.link l with call := call }) := .setLink_active hl rfl rfl
    refine ((hsent _).trans (.setNode_same ?_)).law h
    rw [State.setLink_node]

theorem exec_linkLaw {c : Instr} {s t : State} (h : LinkLaw s) (hexec : exec c s = .next t) : LinkLaw t := by
  cases c with
  | reset => cases hexec; exact .of_reset rfl rfl rfl
  | resetEnd a b =>
    cases hexec
    split
    · exact (State.KeepsLinkStates.of_eq rfl rfl rfl).law h
    · exact h
  | checkEnd passed =>
    cases hexec
    split
    · exact .of_reset rfl rfl rfl
    · exact h
  | windowOpen p =>
    cases hexec
    split
    · exact h
    · exact (State.KeepsLinkStates.setPort _ _ _).law h
  | windowClose p edge =>
    obtain rfl | ⟨u, a, b, rfl⟩ | ⟨r, rfl, -⟩ := execWindowClose_cases hexec
    · exact h
    · exact .of_reset rfl rfl rfl
    · exact (State.KeepsLinkStates.setPort _ _ _).law h
  | pollRequest => cases hexec; exact h.grant_reading
  | unknownRequest => cases hexec; exact h.grantOf fun _ _ => h
  | lookup => cases hexec; exact h.grant_reading
  | listPoints => cases hexec; exact h.grant_reading
  | describePoint => cases hexec; exact h.grant_reading
  | pointSummary => cases hexec; exact h.grant_reading
  | nodeInfo => cases hexec; exact h.grant (.onNodeSlot fun _ s => .refl s)
  | listNodes => cases hexec; exact h.grant_reading
  | nameNode => cases hexec; exact h.grant .nameNode
  | rescanNode => cases hexec; exact h.grant (.onNodeSlot .rescanNode)
  | excludeNode => cases hexec; exact h.grant (.onNodeSlot .excludeNode)
  | includeNode => cases hexec; exact h.grant (.onNodeSlot .includeNode)
  | forgetNode => cases hexec; exact h.grant (.onNodeSlot .forgetNode)
  | startLink => cases hexec; exact h.grant_onLinkNumber h.startLinkRule
  | stopLink => cases hexec; exact h.grant_onLinkNumber h.stopLinkRule
  | setLink => cases hexec; exact h.grant .setLinkRule
  | linkStatus => cases hexec; exact h.grant_onLinkNumber fun _ => h
  | read => cases hexec; exact h.grant_reading
  | write => cases hexec; exact h.grant .writePoints
  | setSafe => cases hexec; exact h.grant .setSafePoint
  | substitute => cases hexec; exact h.grant .substitutePoint
  | unsubstitute => cases hexec; exact h.grant .unsubstitutePoint
  | openLease => cases hexec; exact h.grant .openLease
  | claim => cases hexec; exact h.grant .claimLease
  | release => cases hexec; exact h.grant .releaseLease
  | renew => cases hexec; exact h.grant .renewLease
  | closeLease => cases hexec; exact h.grant .closeLeaseRule
  | revoke => cases hexec; exact h.grant .revokeLease
  | leaseInfo => cases hexec; exact h.grant_reading
  | watch => cases hexec; exact h.grant (.entriesRequest .watchEntry)
  | unwatch => cases hexec; exact h.grant (.entriesRequest .unwatchEntry)
  | setDeadband => cases hexec; exact h.grant .setDeadband
  | nextChanges => cases hexec; exact h.grant .nextChanges
  | ackChanges => cases hexec; exact h.grant (.entriesRequest .ackEntry)
  | deviceInfo => cases hexec; exact h.grant_reading
  | openSession => cases hexec; exact h.grant .openSession
  | closeSession => cases hexec; exact h.grant fun p _ s => .closeSession s p
  | setAttention => cases hexec; exact h.grant .setAttention
  | resetDevice => cases hexec; exact h.grant_reading
  | leaseClockTick => cases hexec; exact (State.KeepsLinkStates.clockTick s).law h
  | leaseExpiry index =>
    cases hexec
    split
    · split
      · exact (State.KeepsLinkStates.clockTick s).law h
      · exact h
    · exact h
  | cycleTimerExpiry l =>
    cases hexec
    split
    · rename_i hl
      exact (State.KeepsLinkStates.cycleExpiry hl.1).law h
    · exact h
  | callBuild l => cases hexec; exact (State.KeepsLinkStates.callBuild s l).law h
  | attemptRetry l => exact h.attemptRetry hexec
  | answerReceived l frame =>
    cases hexec
    split
    · exact h
    · rename_i hawaited
      split
      · exact (State.KeepsLinkStates.completeCall (h.active_of_awaited hawaited) _ _ _).law h
      · exact h.attemptFails l
  | replyTimeout l => cases hexec; exact h.attemptFails l
  | answerBadLength l n =>
    cases hexec
    split
    · exact h.attemptFails l
    · exact h
  | answerTruncated l => cases hexec; exact h.attemptFails l
  | framingFault l => cases hexec; exact h.attemptFails l
  | broadcastParkCompletion l =>
    cases hexec
    split
    · rename_i hparking
      simp only [LinkRecord.parkingAll, Bool.and_eq_true, beq_iff_eq] at hparking
      exact h.endStop hparking.1
    · exact h

/-- Settles O59: a reset, START_LINK, STOP_LINK and the end of a link stop leave a lawful record, and every other command keeps the state of each
link. -/
theorem stepKeepsLinkLaw : Obligations.StepKeepsLinkLaw := by
  intro s t hlaw h
  obtain rfl | ⟨c, rest, hexec⟩ := step_next h
  · exact hlaw
  · exact exec_linkLaw ((State.KeepsLinkStates.setPending s rest).law hlaw) hexec

end Sys2Proof.Machine
end

section
/-! Commands whose event cannot occur in the state they meet (log entry 1). -/

namespace Sys2Proof.Machine

/-- A command that is a grant serves the codes that `grants` names, by some policy, form and rule (R152). -/
theorem exec_eq_grantOf {c : Instr} (h : ∃ code, grants c code = true) (s : State) :
    ∃ (α : Type) (pol : Policy) (form : List Byte → Option α) (act : PortId → α → State → State × Response),
      exec c s = .next (s.grantOf (grants c) pol form act) := by
  obtain ⟨code, hcode⟩ := h
  cases c
  case reset | resetEnd | checkEnd | windowOpen | windowClose | leaseClockTick | leaseExpiry | cycleTimerExpiry | callBuild |
      attemptRetry | answerReceived | replyTimeout | answerBadLength | answerTruncated | framingFault |
      broadcastParkCompletion => cases hcode
  all_goals exact ⟨_, _, _, _, rfl⟩

section
variable {α : Type} {s : State} {mine : Byte → Bool} {pol : Policy} {form : List Byte → Option α}
  {act : PortId → α → State → State × Response}

/-- A grant does nothing while the next request has a code that is not its own. -/
theorem State.grantOf_of_other {p : PortId} {code : Byte} {params : List Byte} (hnext : s.nextIs p code params)
    (hother : mine code = false) : s.grantOf mine pol form act = s := by
  obtain ⟨⟨p', e⟩, he, heq⟩ := Option.map_eq_some_iff.mp hnext
  simp only [Prod.mk.injEq] at heq
  obtain ⟨-, rfl, -⟩ := heq
  unfold State.grantOf
  simp only [he, hother, Bool.false_eq_true, if_false]

theorem State.grantOf_of_none (hnext : s.nextRequest = none) : s.grantOf mine pol form act = s := by
  unfold State.grantOf
  rw [hnext]

end

section
variable {s : State} {l : LinkId}

theorem LinkRecord.awaited_eq_none {r : LinkRecord}
    (h : r.call = none ∨ ∃ c, r.call = some c ∧ (c.waiting = false ∨ c.target = none)) : r.awaited = none := by
  unfold LinkRecord.awaited
  obtain hcall | ⟨c, hcall, hwaiting | htarget⟩ := h
  · rw [hcall]
  · simp [hcall, hwaiting]
  · simp [hcall, htarget]

theorem State.attemptFails_of_not_awaited (h : (s.link l).awaited = none) : s.attemptFails l = s := by
  unfold State.attemptFails
  rw [h]

theorem State.callBuild_of_call (h : (s.link l).call ≠ none) : s.callBuild l = s := if_pos (Option.isSome_iff_ne_none.mpr h)

/-- An OFF link and a RUNNING link with a complete cycle have no call to build (R63, R75). -/
theorem State.callBuild_of_idle
    (h : (s.link l).state = .off ∨ ((s.link l).state = .running ∧ (s.link l).complete = true)) : s.callBuild l = s := by
  unfold State.callBuild
  dsimp only
  obtain hoff | ⟨hrunning, hcomplete⟩ := h
  · rw [hoff, ite_self]
  · rw [hrunning, hcomplete]
    exact ite_self _

theorem execAttemptRetry_of_idle
    (h : (s.link l).call = none ∨ ∃ c, (s.link l).call = some c ∧ (c.waiting = true ∨ c.target = none)) :
    execAttemptRetry l s = .next s := by
  unfold execAttemptRetry
  obtain hcall | ⟨c, hcall, hwaiting | htarget⟩ := h
  · rw [hcall]
  · cases htarget : c.target with
    | none => simp only [hcall, htarget]
    | some a => simp only [hcall, htarget, hwaiting, if_true]
  · simp only [hcall, htarget]

theorem LinkRecord.parkingAll_eq_false {r : LinkRecord}
    (h : r.state ≠ .stopping ∨ r.call = none ∨ ∃ c a, r.call = some c ∧ c.target = some a) : ¬r.parkingAll = true := by
  unfold LinkRecord.parkingAll
  obtain hstate | hcall | ⟨c, a, hcall, htarget⟩ := h
  · simp [hstate]
  · simp [hcall]
  · simp [hcall, htarget]

theorem LeaseRecord.expiring_iff (r : LeaseRecord) : r.expiring = true ↔ r.state = .held ∧ r.remaining ≤ 1 := by
  simp [LeaseRecord.expiring]

theorem execLeaseExpiry_of_index (k : LeaseIndex) :
    execLeaseExpiry k.val s = .next (if (s.leaseAt k).expiring then s.clockTick else s) :=
  congrArg Host.Outcome.next (dif_pos k.isLt)

end

/-- Settles O4, each command by the test that its event occurs. -/
theorem impossibleCommandsChangeNothing : Obligations.ImpossibleCommandsChangeNothing := by
  intro s
  refine ⟨fun c p code params hgrant hnext hother => ?_, fun c hgrant hnone => ?_, fun b1 b0 h => ?_, fun b h => ?_,
    fun p h => ?_, fun p edge h => ?_, fun l h => ?_, fun l h => ?_, fun l h => execAttemptRetry_of_idle h, fun l h => ?_,
    fun l n h => ?_, fun l h => ?_, fun k h => ?_, fun k h => ?_⟩
  · obtain ⟨α, pol, form, act, hexec⟩ := exec_eq_grantOf hgrant s
    rw [hexec, State.grantOf_of_other hnext hother]
  · obtain ⟨α, pol, form, act, hexec⟩ := exec_eq_grantOf hgrant s
    rw [hexec, State.grantOf_of_none hnone]
  · exact congrArg Host.Outcome.next (if_neg h)
  · exact congrArg Host.Outcome.next (if_neg h)
  · exact congrArg Host.Outcome.next (if_pos (Option.isSome_iff_ne_none.mpr h))
  · simp only [exec, execWindowClose, h]
  · exact congrArg Host.Outcome.next (if_neg fun ⟨hrunning, hout⟩ => h.elim (· hout) (· hrunning))
  · exact congrArg Host.Outcome.next (h.elim State.callBuild_of_call State.callBuild_of_idle)
  · have hawaited := LinkRecord.awaited_eq_none h
    have hfails : s.attemptFails l = s := State.attemptFails_of_not_awaited hawaited
    refine ⟨fun frame => ?_, congrArg Host.Outcome.next hfails, fun n => ?_, congrArg Host.Outcome.next hfails,
      congrArg Host.Outcome.next hfails⟩
    · simp only [exec, execAnswerReceived, hawaited]
    · simp only [exec, execAnswerBadLength, hfails, ite_self]
  · exact congrArg Host.Outcome.next (if_neg (Nat.not_lt.mpr h))
  · exact congrArg Host.Outcome.next (if_neg (LinkRecord.parkingAll_eq_false h))
  · exact congrArg Host.Outcome.next (dif_neg (Nat.not_lt.mpr h))
  · refine (execLeaseExpiry_of_index k).trans (congrArg Host.Outcome.next (if_neg ?_))
    rw [LeaseRecord.expiring_iff]
    rintro ⟨hheld, hleft⟩
    exact h.elim (· hheld) (by omega)

end Sys2Proof.Machine
end

section
/-! The cycle of a link (R71 to R76): which address the next call goes to, when a cycle goes on, and what starts and ends it. -/

namespace Sys2Proof.Machine

/-! ## The exchange list (R72) -/

section
variable {s : State} {l : LinkId}

/-- Addresses whose node is not ONLINE are passed over. -/
theorem State.nextExchange_of_passed {passed rest : List NodeAddr} {a : NodeAddr}
    (hpassed : ∀ b ∈ passed, (s.nodeAt l b).state ≠ .online) (ha : (s.nodeAt l a).state = .online) :
    s.nextExchange l (passed ++ a :: rest) = some (a, rest) := by
  induction passed with
  | nil => exact if_pos ha
  | cons b passed ih =>
    obtain ⟨hb, hpassed⟩ := List.forall_mem_cons.mp hpassed
    exact (if_neg hb).trans (ih hpassed)

theorem State.nextExchange_eq_none_iff (as : List NodeAddr) :
    s.nextExchange l as = none ↔ ∀ a ∈ as, (s.nodeAt l a).state ≠ .online := by
  induction as with
  | nil => simp [State.nextExchange]
  | cons a rest ih =>
    unfold State.nextExchange
    by_cases ha : (s.nodeAt l a).state = .online
    · simp [ha]
    · rw [if_neg ha, ih, List.forall_mem_cons]
      exact (and_iff_right ha).symm

theorem State.nextExchange_isSome_iff (as : List NodeAddr) :
    (s.nextExchange l as).isSome = true ↔ ∃ a ∈ as, (s.nodeAt l a).state = .online := by
  rw [Option.isSome_iff_ne_none, Ne, State.nextExchange_eq_none_iff]
  push Not
  rfl

end

/-! ## The classes of service calls (R73, R74) -/

/-- The addresses in the order of a rotation: the k-th one after the cursor's, wrapping from 16 to 1. -/
theorem rotateAddr_eq (cursor : NodeAddr) (test : NodeAddr → Bool) :
    rotateAddr cursor test = ((List.finRange 16).rotate cursor.val).find? test := by
  have hcursor : cursor.val ≤ (List.finRange 16).length := by simp
  unfold rotateAddr
  rw [indices_eq, List.rotate_eq_drop_append_take hcursor]

/-- A rotation takes the address that meets the test first from its cursor on (R74). -/
theorem rotateAddr_eq_some {cursor a : NodeAddr} {test : NodeAddr → Bool} (ha : test a = true)
    (hfirst : ∀ b, test b = true → (a.val + 16 - cursor.val) % 16 ≤ (b.val + 16 - cursor.val) % 16) :
    rotateAddr cursor test = some a := by
  have hget (k : Nat) (hk : k < ((List.finRange 16).rotate cursor.val).length) :
      (((List.finRange 16).rotate cursor.val)[k]).val = (k + cursor.val) % 16 := by simp [List.getElem_rotate]
  rw [rotateAddr_eq, List.find?_eq_some_iff_getElem]
  refine ⟨ha, (a.val + 16 - cursor.val) % 16, by simp; omega, Fin.ext ?_, fun k hk => ?_⟩
  · rw [hget]
    omega
  · have hlen : k < ((List.finRange 16).rotate cursor.val).length := by simp; omega
    have hval := hget k hlen
    rw [Bool.not_eq_true', Bool.eq_false_iff]
    intro hb
    have hle := hfirst _ hb
    omega

theorem rotateAddr_eq_none_iff {cursor : NodeAddr} {test : NodeAddr → Bool} :
    rotateAddr cursor test = none ↔ ∀ a, test a = false := by
  simp [rotateAddr_eq]

/-- The cursor of a class: the lowest address is the first of a rotation from address 1 on. -/
def LinkRecord.cursorOf (r : LinkRecord) : ServiceClass → NodeAddr
  | .owedPark | .resync | .describe => 0
  | .lost => r.lostCursor
  | .vacant => r.vacantCursor

section
variable {s : State} {l : LinkId}

theorem State.classAddr_eq (s : State) (l : LinkId) (c : ServiceClass) :
    s.classAddr l c = rotateAddr ((s.link l).cursorOf c) (s.qualifies l c) := by
  have hlowest (test : NodeAddr → Bool) : lowestAddr test = rotateAddr 0 test := by
    unfold lowestAddr rotateAddr
    simp
  cases c with
  | owedPark => exact hlowest _
  | resync => exact hlowest _
  | describe => exact hlowest _
  | lost => rfl
  | vacant => rfl

theorem State.classAddr_eq_none_iff {c : ServiceClass} : s.classAddr l c = none ↔ ∀ a, s.qualifies l c a = false := by
  rw [State.classAddr_eq, rotateAddr_eq_none_iff]

/-- Classes without a qualifying address are passed over. -/
theorem State.firstClass_of_passed {passed rest : List ServiceClass} {c : ServiceClass} {a : NodeAddr}
    (hpassed : ∀ b ∈ passed, s.classAddr l b = none) (hc : s.classAddr l c = some a) :
    s.firstClass l (passed ++ c :: rest) = some (c, a) := by
  induction passed with
  | nil => simp only [List.nil_append, State.firstClass, hc]
  | cons b passed ih =>
    obtain ⟨hb, hpassed⟩ := List.forall_mem_cons.mp hpassed
    simp only [List.cons_append, State.firstClass, hb]
    exact ih hpassed

theorem State.firstClass_eq_none_iff (cs : List ServiceClass) :
    s.firstClass l cs = none ↔ ∀ c ∈ cs, s.classAddr l c = none := by
  induction cs with
  | nil => simp [State.firstClass]
  | cons c rest ih =>
    unfold State.firstClass
    cases hc : s.classAddr l c with
    | none => simp [ih, hc]
    | some a => simp [hc]

theorem State.serviceChoice_eq_none_iff : s.serviceChoice l = none ↔ ∀ c a, s.qualifies l c a = false := by
  unfold State.serviceChoice
  rw [State.firstClass_eq_none_iff]
  simp only [State.classAddr_eq_none_iff]
  exact ⟨fun h c => h c (by cases c <;> simp), fun h c _ => h c⟩

/-- An address that some class would serve (R73). -/
theorem State.exists_qualifies_iff (s : State) (l : LinkId) (a : NodeAddr) :
    (∃ c, s.qualifies l c a = true) ↔
      (let n := s.nodeAt l a
       ((n.state = .vacant ∨ n.state = .parked) ∧ n.parkOwed = true) ∨ n.state = .resync ∨ n.state = .describing ∨
         n.state = .lost ∨ (n.state = .vacant ∧ n.parkOwed = false ∧ (s.link l).settings.scanSet.getLsbD a.val = true)) := by
  constructor
  · rintro ⟨c, hc⟩
    cases c with
    | owedPark => exact .inl (by simpa [State.qualifies] using hc)
    | resync => exact .inr (.inl (by simpa [State.qualifies] using hc))
    | describe => exact .inr (.inr (.inl (by simpa [State.qualifies] using hc)))
    | lost => exact .inr (.inr (.inr (.inl (by simpa [State.qualifies] using hc))))
    | vacant => exact .inr (.inr (.inr (.inr (by simpa [State.qualifies, and_assoc] using hc))))
  · rintro (h | h | h | h | h)
    · exact ⟨.owedPark, by simpa [State.qualifies] using h⟩
    · exact ⟨.resync, by simpa [State.qualifies] using h⟩
    · exact ⟨.describe, by simpa [State.qualifies] using h⟩
    · exact ⟨.lost, by simpa [State.qualifies] using h⟩
    · exact ⟨.vacant, by simpa [State.qualifies, and_assoc] using h⟩

theorem State.serviceChoice_isSome_iff : (s.serviceChoice l).isSome = true ↔ ∃ a c, s.qualifies l c a = true := by
  rw [Option.isSome_iff_ne_none, Ne, State.serviceChoice_eq_none_iff, exists_comm]
  push Not
  simp only [Bool.not_eq_false]

theorem LinkRecord.serviceTurn_iff (r : LinkRecord) :
    r.serviceTurn = true ↔ r.late = false ∧ r.serviceStarted < r.settings.serviceCalls := by
  simp [LinkRecord.serviceTurn]

/-! ## When the cycle goes on (R72, R73) -/

/-- A cycle has a call to make while an address of its exchange list is ONLINE, or a service turn is available and some class has a
qualifying address. -/
theorem State.hasNextCall_iff (s : State) (l : LinkId) :
    s.hasNextCall l = true ↔
      (∃ a ∈ (s.link l).exchangeList, (s.nodeAt l a).state = .online) ∨
        (s.link l).late = false ∧ (s.link l).serviceStarted < (s.link l).settings.serviceCalls ∧
          ∃ a c, s.qualifies l c a = true := by
  unfold State.hasNextCall
  rw [Bool.or_eq_true, Bool.and_eq_true, State.nextExchange_isSome_iff, State.serviceChoice_isSome_iff,
    LinkRecord.serviceTurn_iff, and_assoc]

/-- Which cycle is over does not depend on its having been marked complete. -/
theorem State.hasNextCall_setLink_complete (s : State) (l : LinkId) (b : Bool) :
    (s.setLink l { s.link l with complete := b }).hasNextCall l = s.hasNextCall l := by
  rw [Bool.eq_iff_iff, State.hasNextCall_iff, State.hasNextCall_iff]
  simp only [State.exists_qualifies_iff, State.nodeAt, State.setLink_node, State.setLink_link, if_true]

/-! ## The start of a cycle (R71) -/

/-- A cycle starts from a link record as R71 says, and from nothing else. -/
theorem State.startsCycle_startCycle (s : State) (l : LinkId) (r : LinkRecord) :
    s.startsCycle l r ((s.setLink l r).startCycle l) := by
  have honline : (s.setLink l r).onlineAddrs l = (List.finRange 16).filter fun a => (s.nodeAt l a).state == .online := by
    unfold State.onlineAddrs
    simp only [indices_eq, State.nodeAt, State.setLink_node]
  have hlink : ((s.setLink l r).startCycle l).link l =
      { r.startCycle ((s.setLink l r).onlineAddrs l) with complete := !((s.setLink l r).startCycle l).hasNextCall l } := by
    unfold State.startCycle State.settleCycle
    rw [State.hasNextCall_setLink_complete]
    simp only [State.setLink_link, if_true]
  obtain ⟨r', hset⟩ : ∃ r', (s.setLink l r).startCycle l = s.setLink l r' :=
    ⟨_, (State.setLink_setLink ..).trans (State.setLink_setLink ..)⟩
  refine ⟨?_, ?_⟩
  · rw [hset, State.setLink_link, if_pos rfl]
  · rw [hlink, honline]
    rfl

theorem State.proceed_of_next (h : s.hasNextCall l = true) : s.proceed l = s := by
  unfold State.proceed
  rw [if_pos h, ite_self]

theorem State.proceed_of_not_running (h : (s.link l).state ≠ .running) : s.proceed l = s := if_neg h

/-- A cycle in time that has no call to make is complete (R73). -/
theorem State.proceed_of_over (hrunning : (s.link l).state = .running) (hover : ¬s.hasNextCall l = true)
    (hlate : (s.link l).late = false) : s.proceed l = s.setLink l { s.link l with complete := true } := by
  unfold State.proceed State.settleCycle
  rw [if_pos hrunning, if_neg hover, hlate, if_neg Bool.false_ne_true, Bool.eq_false_iff.mpr hover]
  rfl

/-- A late cycle that has no call to make gives way to the next one (R76). -/
theorem State.proceed_of_late (hrunning : (s.link l).state = .running) (hover : ¬s.hasNextCall l = true)
    (hlate : (s.link l).late = true) : s.proceed l = s.startCycle l := by
  unfold State.proceed
  rw [if_pos hrunning, if_neg hover, if_pos hlate]

theorem State.setLink_self (s : State) (l : LinkId) : s.setLink l (s.link l) = s := by cases l <;> rfl

/-- The same from the record that the link has. -/
theorem State.startsCycle_of_startCycle (s : State) (l : LinkId) : s.startsCycle l (s.link l) (s.startCycle l) := by
  have h := s.startsCycle_startCycle l (s.link l)
  rwa [State.setLink_self] at h

end

/-- Settles O45, from when a cycle has a call to make. -/
theorem cycleGoesOnOrEnds : Obligations.CycleGoesOnOrEnds := by
  intro s l
  dsimp only
  simp only [← State.exists_qualifies_iff, ← State.hasNextCall_iff]
  refine ⟨trivial, fun h => ?_, fun hrunning hover hlate => ?_, fun hrunning hover hlate => ?_⟩
  · exact h.elim State.proceed_of_not_running State.proceed_of_next
  · exact State.proceed_of_over hrunning hover hlate
  · exact ⟨_, rfl, State.proceed_of_late hrunning hover hlate ▸ s.startsCycle_of_startCycle l⟩

/-! ## The expiry of a cycle timer (R71, R75, R76) -/

section
variable {s : State} {l : LinkId}

theorem exec_cycleTimerExpiry (hrunning : (s.link l).state = .running) (hout : (s.link l).cycleTimer = some 0) :
    exec (.cycleTimerExpiry l) s = .next (s.cycleExpiry l) := congrArg Host.Outcome.next (if_pos ⟨hrunning, hout⟩)

theorem State.cycleExpiry_of_complete (h : (s.link l).complete = true) : s.cycleExpiry l = s.startCycle l := if_pos h

theorem State.cycleExpiry_of_call (h : (s.link l).complete = false) (hcall : (s.link l).call ≠ none) :
    s.cycleExpiry l = s.setLink l (s.link l).lateExpiry :=
  (if_neg (by simp [h])).trans (if_pos (Option.isSome_iff_ne_none.mpr hcall))

theorem State.cycleExpiry_of_idle (h : (s.link l).complete = false) (hcall : (s.link l).call = none) :
    s.cycleExpiry l = (s.setLink l (s.link l).lateExpiry).proceed l :=
  (if_neg (by simp [h])).trans (if_neg (by simp [hcall]))

/-- A late cycle has exchange-class calls alone to make (R76). -/
theorem State.hasNextCall_lateExpiry (s : State) (l : LinkId) :
    (s.setLink l (s.link l).lateExpiry).hasNextCall l = true ↔
      ∃ a ∈ (s.link l).exchangeList, (s.nodeAt l a).state = .online := by
  rw [State.hasNextCall_iff]
  simp [LinkRecord.lateExpiry, State.nodeAt]

end

/-- Settles O44: the cycle is complete; or it is late, with a call in flight or left, or with none. -/
theorem cycleTimerStartsOrIsLate : Obligations.CycleTimerStartsOrIsLate := by
  intro s l r hrunning hout
  rw [exec_cycleTimerExpiry hrunning hout]
  have hlink : (s.setLink l r.lateExpiry).link l = r.lateExpiry := by rw [State.setLink_link, if_pos rfl]
  have hstate : ((s.setLink l r.lateExpiry).link l).state = .running := by rw [hlink]; exact hrunning
  have hlate : ((s.setLink l r.lateExpiry).link l).late = true := by rw [hlink]; rfl
  refine ⟨fun hcomplete => ?_, fun hcomplete hleft => congrArg Host.Outcome.next ?_, fun hcomplete hcall hover => ?_⟩
  · exact ⟨_, rfl, State.cycleExpiry_of_complete hcomplete ▸ s.startsCycle_of_startCycle l⟩
  · by_cases hcall : r.call = none
    · rw [State.cycleExpiry_of_idle hcomplete hcall]
      exact State.proceed_of_next ((s.hasNextCall_lateExpiry l).mpr (hleft.resolve_left (not_not_intro hcall)))
    · exact State.cycleExpiry_of_call hcomplete hcall
  · have hnone : ¬(s.setLink l r.lateExpiry).hasNextCall l = true := by
      rw [State.hasNextCall_lateExpiry]
      push Not
      exact hover
    refine ⟨_, rfl, ?_⟩
    rw [State.cycleExpiry_of_idle hcomplete hcall, State.proceed_of_late hstate hnone hlate]
    exact s.startsCycle_startCycle l r.lateExpiry

end Sys2Proof.Machine
end

section
/-! Which call CALL_BUILD builds (R63 to R65, R72 to R74, R77, R80). -/

namespace Sys2Proof.Machine

/-! ## The order of the service classes (R73) -/

/-- The place of a class in the order of priority. -/
def ServiceClass.rank : ServiceClass → Nat
  | .owedPark => 0
  | .resync => 1
  | .describe => 2
  | .lost => 3
  | .vacant => 4

theorem ServiceClass.exists_rank {k : Nat} (h : k < 5) : ∃ c : ServiceClass, c.rank = k := by
  match k, h with
  | 0, _ => exact ⟨.owedPark, rfl⟩
  | 1, _ => exact ⟨.resync, rfl⟩
  | 2, _ => exact ⟨.describe, rfl⟩
  | 3, _ => exact ⟨.lost, rfl⟩
  | 4, _ => exact ⟨.vacant, rfl⟩

/-- The classes of higher priority stand before a class in the order of the choice. -/
theorem ServiceClass.order_split (c : ServiceClass) :
    ∃ passed rest, [ServiceClass.owedPark, .resync, .describe, .lost, .vacant] = passed ++ c :: rest ∧
      ∀ b ∈ passed, b.rank < c.rank := by
  cases c with
  | owedPark => exact ⟨[], _, rfl, by decide⟩
  | resync => exact ⟨[.owedPark], _, rfl, by decide⟩
  | describe => exact ⟨[.owedPark, .resync], _, rfl, by decide⟩
  | lost => exact ⟨[.owedPark, .resync, .describe], _, rfl, by decide⟩
  | vacant => exact ⟨[.owedPark, .resync, .describe, .lost], _, rfl, by decide⟩

section
variable {s : State} {l : LinkId}

/-- The service choice is the first class with a qualifying address, and the first such address from its cursor on (R73, R74). -/
theorem State.serviceChoice_eq_some {c : ServiceClass} {a : NodeAddr} (ha : s.qualifies l c a = true)
    (hpassed : ∀ b, b.rank < c.rank → ∀ a', s.qualifies l b a' = false)
    (hfirst : ∀ b, s.qualifies l c b = true →
      (a.val + 16 - ((s.link l).cursorOf c).val) % 16 ≤ (b.val + 16 - ((s.link l).cursorOf c).val) % 16) :
    s.serviceChoice l = some (c, a) := by
  obtain ⟨passed, rest, horder, hrank⟩ := c.order_split
  unfold State.serviceChoice
  rw [horder]
  refine State.firstClass_of_passed (fun b hb => State.classAddr_eq_none_iff.mpr (hpassed b (hrank b hb))) ?_
  rw [State.classAddr_eq]
  exact rotateAddr_eq_some ha hfirst

/-! ## What is built (R63, R64, R72, R77) -/

/-- The call of an address, with the toggled sequence bit and the retry limit in force (R63, R64). -/
theorem State.placeCall_setLink (s : State) (l : LinkId) (r : LinkRecord) (a : NodeAddr) (kind : CallKind)
    (payload : List Byte) :
    (s.setLink l r).placeCall l a kind payload =
      s.setLink l
        { r with
          seqBits := r.seqBits.set a (!r.seqBits[a])
          call := some
            ⟨some a, kind, !r.seqBits[a], payload, r.settings.retryLimit, true, (s.nodeAt l a).identity.inputLength,
              (s.nodeAt l a).state == .vacant⟩ } := by
  unfold State.placeCall State.nodeAt
  simp only [State.setLink_link, if_true, State.setLink_node, State.setLink_setLink]

/-- The snapshot sets in-flight values alone (R77). -/
theorem State.takeSnapshot_eq (s : State) (n : NodeSlot) :
    s.takeSnapshot n =
      { s with
        points := tabMap (fun _ x =>
          if x.state = .live ∧ x.nodeSlot = n ∧ x.direction = .out then { x with inFlight := some x.demand } else x)
          s.points } := by
  have hdriven (x : PointRecord) : x.drivenBy n = true ↔ x.state = .live ∧ x.nodeSlot = n ∧ x.direction = .out := by
    rw [PointRecord.drivenBy, Bool.and_eq_true, PointRecord.liveOf_iff, beq_iff_eq, and_assoc]
  unfold State.takeSnapshot
  rw [State.updatePoints_of_marks]
  · simp only [hdriven]
  · intro i
    split <;> rfl

theorem State.takeSnapshot_setLink (s : State) (l : LinkId) (r : LinkRecord) (n : NodeSlot) :
    (s.setLink l r).takeSnapshot n = (s.takeSnapshot n).setLink l r := by cases l <;> rfl

theorem State.outputImage_setLink (s : State) (l : LinkId) (r : LinkRecord) (n : NodeSlot) :
    (s.setLink l r).outputImage n = s.outputImage n := by
  unfold State.outputImage
  rw [State.setLink_node, State.setLink_points]

/-- A held node is called with CLEAR_HOLD (R72). -/
theorem State.buildExchange_held {r : LinkRecord} {a : NodeAddr} (h : (s.node (nodeSlotOf l a)).held = true) :
    (s.setLink l r).buildExchange l a = (s.setLink l r).placeCall l a .clearHold [] :=
  if_pos (by rw [State.setLink_node]; exact h)

/-- Any other ONLINE node is called with EXCHANGE, its output image and a snapshot of it (R72, R77). -/
theorem State.buildExchange_unheld {r : LinkRecord} {a : NodeAddr} (h : (s.node (nodeSlotOf l a)).held = false) :
    (s.setLink l r).buildExchange l a =
      ((s.takeSnapshot (nodeSlotOf l a)).setLink l r).placeCall l a .exchange (s.outputImage (nodeSlotOf l a)) := by
  unfold State.buildExchange
  dsimp only
  rw [State.setLink_node, if_neg (by simp [h]), State.takeSnapshot_setLink, State.outputImage_setLink]

/-- The call of a service class, counted as a service call, with its cursor moved past the address (R73, R74). -/
theorem State.buildService_eq (s : State) (l : LinkId) (r : LinkRecord) (c : ServiceClass) (a : NodeAddr) :
    (s.setLink l r).buildService l c a =
      (s.setLink l
          { r with
            serviceStarted := r.serviceStarted + 1
            lostCursor := if c.rank = 3 then a + 1 else r.lostCursor
            vacantCursor := if c.rank = 4 then a + 1 else r.vacantCursor }).placeCall l a
        (if c.rank = 0 then .park else if c.rank = 2 then .describe else .probe)
        (if c.rank = 2 then [byte (s.nodeAt l a).cursor] else []) := by
  unfold State.buildService State.nodeAt
  simp only [State.setLink_link, if_true, State.setLink_setLink, State.setLink_node]
  cases c <;> rfl

/-! ## The next call (R63, R72, R73) -/

theorem State.callBuild_of_running (hcall : (s.link l).call = none) (hrunning : (s.link l).state = .running)
    (hcomplete : (s.link l).complete = false) : s.callBuild l = s.buildNext l := by
  unfold State.callBuild
  simp [hcall, hrunning, hcomplete]

theorem State.buildNext_of_exchange {a : NodeAddr} {rest : List NodeAddr}
    (h : s.nextExchange l (s.link l).exchangeList = some (a, rest)) :
    s.buildNext l = (s.setLink l { s.link l with exchangeList := rest }).buildExchange l a := by
  unfold State.buildNext
  rw [h]

theorem State.buildNext_of_service {c : ServiceClass} {a : NodeAddr}
    (hnone : s.nextExchange l (s.link l).exchangeList = none) (hturn : (s.link l).serviceTurn = true)
    (hchoice : s.serviceChoice l = some (c, a)) :
    s.buildNext l = (s.setLink l { s.link l with exchangeList := [] }).buildService l c a := by
  unfold State.buildNext
  simp only [hnone, hturn, hchoice, if_true]

theorem State.buildNext_of_over (h : ¬s.hasNextCall l = true) : s.buildNext l = s.proceed l := by
  simp only [State.hasNextCall, Bool.or_eq_true, Bool.and_eq_true, not_or, not_and, Option.not_isSome_iff_eq_none] at h
  obtain ⟨hnone, hservice⟩ := h
  unfold State.buildNext
  rw [hnone]
  dsimp only
  split
  · rename_i hturn
    rw [hservice hturn]
  · rfl

theorem State.callBuild_of_stopping (hcall : (s.link l).call = none) (hstopping : (s.link l).state = .stopping) :
    s.callBuild l = s.setLink l { s.link l with call := some broadcastPark } := by
  unfold State.callBuild
  simp [hcall, hstopping]

/-- ONLINE, REFUSED and PARKED nodes without an owed PARK, and VACANT ones that are not scanned, are not served (R73). -/
theorem State.not_exists_qualifies {a : NodeAddr}
    (h : (s.nodeAt l a).state = .online ∨ (s.nodeAt l a).state = .refused ∨
      ((s.nodeAt l a).state = .parked ∧ (s.nodeAt l a).parkOwed = false) ∨
      ((s.nodeAt l a).state = .vacant ∧ (s.nodeAt l a).parkOwed = false ∧
        (s.link l).settings.scanSet.getLsbD a.val = false)) : ¬∃ c, s.qualifies l c a = true := by
  rw [State.exists_qualifies_iff]
  obtain h | h | ⟨h, howed⟩ | ⟨h, howed, hscan⟩ := h
  · simp [h]
  · simp [h]
  · simp [h, howed]
  · simpa [h, howed] using hscan

end

/-- Settles O47: the next address of the exchange list, then the first class with a qualifying address, then the end of the cycle. -/
theorem callBuildChoosesTheCall : Obligations.CallBuildChoosesTheCall := by
  intro s l r call hcall
  refine ⟨fun hrunning hcomplete => ?_, fun hstopping => congrArg Host.Outcome.next (State.callBuild_of_stopping hcall hstopping)⟩
  have hnext : exec (.callBuild l) s = .next (s.buildNext l) :=
    congrArg Host.Outcome.next (State.callBuild_of_running hcall hrunning hcomplete)
  rw [hnext]
  refine ⟨fun passed a rest hlist hpassed ha => ?_, fun hnone hlate hstarted => ?_, fun hnone hnoService => ?_⟩
  · have hbuild := State.buildNext_of_exchange (hlist ▸ State.nextExchange_of_passed hpassed ha)
    rw [hbuild]
    refine ⟨fun hheld => ?_, fun hheld => ?_⟩
    · rw [State.buildExchange_held hheld, State.placeCall_setLink]
    · rw [State.buildExchange_unheld hheld, State.placeCall_setLink, State.takeSnapshot_eq]
      rfl
  · intro serves cursor cls a hcls
    obtain ⟨c, rfl⟩ := ServiceClass.exists_rank hcls
    have hserves (b : ServiceClass) (a' : NodeAddr) : serves b.rank a' ↔ s.qualifies l b a' = true := by
      cases b <;> simp [serves, ServiceClass.rank, State.qualifies, and_assoc, r]
    have hcursor : cursor c.rank = r.cursorOf c := by cases c <;> rfl
    simp only [hserves, hcursor]
    intro ha hhigher hfirst
    have hchoice : s.serviceChoice l = some (c, a) :=
      State.serviceChoice_eq_some ha
        (fun b hb a' => Bool.eq_false_iff.mpr fun h => hhigher b.rank hb a' ((hserves b a').mpr h)) hfirst
    rw [State.buildNext_of_service ((State.nextExchange_eq_none_iff _).mpr hnone)
      ((LinkRecord.serviceTurn_iff _).mpr ⟨hlate, hstarted⟩) hchoice, State.buildService_eq, State.placeCall_setLink]
    cases c <;> rfl
  · have hover : ¬s.hasNextCall l = true := by
      rw [State.hasNextCall_iff]
      rintro (⟨a, ha, honline⟩ | ⟨hlate, hstarted, a, hserved⟩)
      · exact hnone a ha honline
      · obtain hlate' | hfull | hidle := hnoService
        · exact Bool.noConfusion (hlate.symm.trans hlate')
        · exact absurd hstarted (Nat.not_lt.mpr hfull)
        · exact State.not_exists_qualifies (hidle a) hserved
    rw [State.buildNext_of_over hover]
    refine ⟨fun hlate => ?_, fun hlate => ?_⟩
    · rw [State.proceed_of_over hrunning hover hlate]
    · exact ⟨_, rfl, State.proceed_of_late hrunning hover hlate ▸ s.startsCycle_of_startCycle l⟩

end Sys2Proof.Machine
end

section
/-! What the requests on a link do by its state (R57, R71, R79, R80, R82, R83), and the tick of the time base (R71, R114, R117, R120). -/

namespace Sys2Proof.Machine

/-! ## START_LINK and STOP_LINK (R79, R80) -/

section
variable {s : State} {p : PortId} {code b : Byte}

/-- A supervisor's request on a link is answered by its rule on that link (ch. 3.7). -/
theorem State.grant_onLinkNumber_toNat (hasks : s.supervisorAsks p code [b]) {l : LinkId} (hl : l.toNat = b.toNat)
    (act : LinkId → State → State × Response) :
    s.grant code supervisorOnly formByte (onLinkNumber act) = (act l s).1.finishGrant p (act l s).2 :=
  onLinkNumber_toNat act p s hl ▸ State.grant_of_supervisorAsks hasks rfl

theorem State.grant_onLinkNumber_of_gt (hasks : s.supervisorAsks p code [b]) (hb : 1 < b.toNat)
    (act : LinkId → State → State × Response) :
    s.grant code supervisorOnly formByte (onLinkNumber act) = s.finishGrant p ⟨.badRequest, []⟩ := by
  have hrun : s.grant code supervisorOnly formByte (onLinkNumber act) =
      (onLinkNumber act p b.toNat s).1.finishGrant p (onLinkNumber act p b.toNat s).2 :=
    State.grant_of_supervisorAsks hasks rfl
  rw [hrun, onLinkNumber_of_gt act p s hb]
  rfl

end

/-- The nodes of a link at its start: the retry totals are 0 (R79). -/
theorem State.startLink_node (s : State) (l : LinkId) (n : NodeSlot) :
    (s.startLink l).node n = if n.val / 16 = l.toNat then { s.node n with retryTotal := 0 } else s.node n := by
  unfold State.startLink State.startCycle State.settleCycle
  simp only [State.setLink_node, State.mapNodes_node, onLinkSlot_iff]

theorem State.startLink_link_other (s : State) {l l' : LinkId} (h : l' ≠ l) : (s.startLink l).link l' = s.link l' := by
  unfold State.startLink State.startCycle State.settleCycle
  simp only [State.setLink_link, State.mapNodes_link, if_neg h]

theorem State.startLink_frame (s : State) (l : LinkId) :
    s.startLink l =
      { s with nodes := (s.startLink l).nodes, link0 := (s.startLink l).link0, link1 := (s.startLink l).link1 } := by
  cases l <;> rfl

/-- The part with the retry totals of a link's nodes at 0 (R79). -/
def State.clearRetryTotals (s : State) (l : LinkId) : State :=
  s.mapNodes fun n r => if onLinkSlot l n then { r with retryTotal := 0 } else r

theorem State.clearRetryTotals_state (s : State) (l l' : LinkId) (a : NodeAddr) :
    ((s.clearRetryTotals l).nodeAt l' a).state = (s.nodeAt l' a).state := by
  unfold State.clearRetryTotals State.nodeAt
  rw [State.mapNodes_node]
  split <;> rfl

theorem State.startLink_eq (s : State) (l : LinkId) :
    s.startLink l = ((s.clearRetryTotals l).setLink l (s.link l).started).startCycle l := by cases l <;> rfl

/-- A link that starts begins its first cycle, from its record and the ONLINE addresses as they are (R71, R79). -/
theorem State.startLink_link (s : State) (l : LinkId) :
    (s.startLink l).link l =
      (let r := s.link l
       let period := r.pendingPeriod.getD r.settings.period
       { r with
         state := .running, cycles := 1, lateCycles := 0, failedCalls := 0, droppedService := 0, lostCursor := 0
         vacantCursor := 0, settings := { r.settings with period := period }, pendingPeriod := none
         cycleTimer := some period, serviceStarted := 0
         exchangeList := (List.finRange 16).filter fun a => (s.nodeAt l a).state == .online
         late := false, complete := !(s.startLink l).hasNextCall l }) := by
  obtain ⟨-, hlink⟩ := (s.clearRetryTotals l).startsCycle_startCycle l (s.link l).started
  rw [← State.startLink_eq] at hlink
  simp only [State.clearRetryTotals_state] at hlink
  exact hlink

/-- Settles O24, each rule by the state of the link. -/
theorem startAndStopLink : Obligations.StartAndStopLink := by
  intro s p b
  refine ⟨fun hb => ⟨fun hasks => ?_, fun hasks => ?_⟩, fun l hl => ⟨fun hasks => ?_, fun hasks => ?_⟩⟩
  · exact congrArg Host.Outcome.next (State.grant_onLinkNumber_of_gt hasks hb startLinkRule)
  · exact congrArg Host.Outcome.next (State.grant_onLinkNumber_of_gt hasks hb stopLinkRule)
  · have hrun : exec .startLink s = .next ((startLinkRule l s).1.finishGrant p (startLinkRule l s).2) :=
      congrArg Host.Outcome.next (State.grant_onLinkNumber_toNat hasks hl startLinkRule)
    rw [hrun]
    unfold startLinkRule
    refine ⟨fun h => by rw [h]; rfl, fun h => by rw [h]; rfl, fun h => ⟨s.startLink l, by rw [h]; rfl, ?_⟩⟩
    exact ⟨s.startLink_link l, s.startLink_node l, s.startLink_frame l, fun l' => s.startLink_link_other⟩
  · have hrun : exec .stopLink s = .next ((stopLinkRule l s).1.finishGrant p (stopLinkRule l s).2) :=
      congrArg Host.Outcome.next (State.grant_onLinkNumber_toNat hasks hl stopLinkRule)
    rw [hrun]
    unfold stopLinkRule
    exact ⟨fun h => by rw [h]; rfl, fun h => by rw [h]; rfl, fun h => by rw [h]; rfl⟩

/-! ## SET_LINK (R57, R82, R83) -/

theorem bitRateOf_code (rate : BitRate) : bitRateOf rate.code = some rate := by cases rate <;> rfl

theorem bitRateOf_eq_none {b : Byte} (h : 3 < b.toNat) : bitRateOf b = none := by
  unfold bitRateOf
  split
  case h_5 => rfl
  all_goals omega

section
variable {rate : Byte} {period reply retry loss service : Nat} {scan : BitVec 16}

/-- The settings record's fields are in range (R57). -/
def settingsInRange (rate : Byte) (period reply retry loss service : Nat) : Prop :=
  rate.toNat ≤ 3 ∧ 2 ≤ period ∧ period ≤ 250 ∧ 2 ≤ reply ∧ reply ≤ 200 ∧ retry ≤ 3 ∧ 1 ≤ loss ∧ loss ≤ 15 ∧ 1 ≤ service ∧
    service ≤ 4

theorem settingsOf_of_inRange (h : settingsInRange rate period reply retry loss service) {bitRate : BitRate}
    (hrate : bitRate.code = rate) :
    settingsOf (rate, period, reply, retry, loss, service, scan) =
      some ⟨bitRate, period, reply, retry, loss, service, scan⟩ := by
  obtain ⟨-, hrest⟩ := h
  subst hrate
  unfold settingsOf
  simp only [bitRateOf_code]
  exact if_pos hrest

theorem settingsOf_of_not_inRange (h : ¬settingsInRange rate period reply retry loss service) :
    settingsOf (rate, period, reply, retry, loss, service, scan) = none := by
  unfold settingsOf
  dsimp only
  split
  · rename_i bitRate hrate
    refine if_neg fun hrest => h ⟨Nat.not_lt.mp fun hlt => ?_, hrest⟩
    rw [bitRateOf_eq_none hlt] at hrate
    cases hrate
  · rfl

end

theorem LinkRecord.lineSettingsBusy_iff (r : LinkRecord) (new : Settings) :
    r.lineSettingsBusy new = true ↔
      r.state ≠ .off ∧ (new.bitRate ≠ r.settings.bitRate ∨ new.replyTimeout ≠ r.settings.replyTimeout) := by
  simp [LinkRecord.lineSettingsBusy]

theorem State.periodConflicts_iff (s : State) (l : LinkId) (period : Nat) :
    s.periodConflicts l period = true ↔
      ∃ n : NodeSlot, n.val / 16 = l.toNat ∧
        ((s.node n).state = .online ∨ (s.node n).state = .resync ∨ (s.node n).state = .describing) ∧
        (s.node n).identity.holdTime < 3 * period := by
  unfold State.periodConflicts
  simp [entries_eq, onLinkSlot_iff, State.node, or_assoc, and_assoc]

/-- The settings that an accepted SET_LINK leaves (R83). -/
theorem LinkRecord.applySettings_eq (r : LinkRecord) (new : Settings) :
    r.applySettings new =
      if r.state = .off then { r with settings := new }
      else if new.period = r.settings.period then { r with settings := new, pendingPeriod := none }
      else { r with settings := { new with period := r.settings.period }, pendingPeriod := some new.period } := by
  unfold LinkRecord.applySettings
  split
  · rfl
  split
  · rename_i hperiod
    rw [← hperiod]
  · rfl

theorem State.overLimit_eq (s : State) (l : LinkId) (limit : Nat) :
    s.overLimit l limit = fun n : NodeSlot => n.val / 16 == l.toNat &&
      ((s.node n).state == .online || (s.node n).state == .resync) && decide (limit ≤ (s.node n).failures) := by
  funext n
  have hslot : onLinkSlot l n = (n.val / 16 == l.toNat) := by rw [Bool.eq_iff_iff, onLinkSlot_iff, beq_iff_eq]
  rw [State.overLimit, State.exchangingOn, hslot]

/-- Settles O25: the checks of SET_LINK in order, and then its settings. -/
theorem setLinkChecksAndApplies : Obligations.SetLinkChecksAndApplies := by
  intro s p b rate period reply retry loss service m0 m1 hasks
  have hrun {out : State × Response}
      (h : setLinkRule p (b.toNat, rate, period.toNat, reply.toNat, retry.toNat, loss.toNat, service.toNat,
        BitVec.ofNat 16 (u16 m0 m1)) s = out) : exec .setLink s = .next (out.1.finishGrant p out.2) :=
    h ▸ congrArg Host.Outcome.next (State.grant_of_supervisorAsks hasks rfl)
  unfold setLinkRule at hrun
  refine ⟨fun hb => hrun (by rw [linkOf_eq_none hb]), fun l hl => ?_⟩
  rw [← hl, linkOf_toNat] at hrun
  refine ⟨fun hrange => hrun (by rw [settingsOf_of_not_inRange hrange]), fun hrange new hnew hrate => ?_⟩
  have hsettings : settingsOf (rate, period.toNat, reply.toNat, retry.toNat, loss.toNat, service.toNat,
      BitVec.ofNat 16 (u16 m0 m1)) = some new := (settingsOf_of_inRange hrange hrate).trans (congrArg some hnew.symm)
  simp only [hsettings, LinkRecord.lineSettingsBusy_iff, State.periodConflicts_iff] at hrun
  refine ⟨fun hbusy => hrun (if_pos hbusy), fun hline hconflict => hrun ((if_neg hline).trans (if_pos hconflict)),
    fun hline hconflict => ?_⟩
  rw [hrun ((if_neg hline).trans (if_neg hconflict)), State.applySetLink, LinkRecord.applySettings_eq, State.overLimit_eq]
  rfl

/-! ## The tick of the time base (R71, R114, R117, R120) -/

theorem LeaseRecord.tick_eq (r : LeaseRecord) :
    r.tick =
      if r.expiring then { r with state := .lapsed, members := [], cause := some .expired, remaining := 0 }
      else if r.state = .held then { r with remaining := r.remaining - 1 }
      else r := rfl

theorem State.clockTick_leaseAt (s : State) (k : LeaseIndex) : s.clockTick.leaseAt k = (s.leaseAt k).tick := by
  unfold State.clockTick
  rw [State.setLink_leaseAt, State.setLink_leaseAt, State.mapLeases_leaseAt]
  rfl

theorem State.clockTick_link (s : State) (l : LinkId) : s.clockTick.link l = (s.link l).tick := by cases l <;> rfl

theorem State.clockTick_frame (s : State) :
    s.clockTick =
      { s.releaseMembers s.expiringMembers with
        leases := s.clockTick.leases, link0 := s.clockTick.link0, link1 := s.clockTick.link1 } := rfl

/-- A point is released at a tick when some lease that expires holds it (R114, R120). -/
theorem State.mem_expiringMembers (s : State) (i : DirSlot) :
    s.expiringMembers.contains i =
      (List.finRange 64).any fun k => (s.leaseAt k).expiring && (s.leaseAt k).members.contains i := by
  rw [Bool.eq_iff_iff]
  unfold State.expiringMembers
  rw [table_toList]
  simp [State.leaseAt]

/-- Settles O43, from what a tick does to a lease, a link and a point. -/
theorem tickCountsAndExpires : Obligations.TickCountsAndExpires := by
  intro s
  refine ⟨s.clockTick, rfl, fun k => ?_, s.clockTick_link, ?_, fun k hk => ?_⟩
  · rw [State.clockTick_leaseAt, LeaseRecord.tick_eq]
    rfl
  · refine s.clockTick_frame.trans ?_
    unfold State.releaseMembers
    simp only [State.mem_expiringMembers]
    rfl
  · exact (execLeaseExpiry_of_index k).trans (congrArg Host.Outcome.next (if_pos hk))

end Sys2Proof.Machine
end

section
/-! The bits of the images (R77, R89; 00_scope.md, "Byte order"). -/

namespace Sys2Proof.Machine

/-! ## Images as numbers -/

theorem natImage_length (len n : Nat) : (natImage len n).length = len := by
  induction len generalizing n with
  | zero => rfl
  | succ len ih => simp [natImage, ih]

/-- A bit of an image after its first byte is a bit of the rest. -/
theorem imageBit_cons (b : Byte) (rest : List Byte) (k : Nat) :
    imageBit (b :: rest) k = if k < 8 then b.getLsbD k else imageBit rest (k - 8) := by
  unfold imageBit
  split
  · rename_i hk
    rw [Nat.div_eq_of_lt hk, Nat.mod_eq_of_lt hk]
    rfl
  · obtain ⟨j, rfl⟩ := Nat.exists_eq_add_of_le' (Nat.not_lt.mp ‹¬k < 8›)
    simp

/-- The image of a number holds the number's bits, as far as it reaches. -/
theorem imageBit_natImage {len k : Nat} (n : Nat) (hk : k < 8 * len) : imageBit (natImage len n) k = n.testBit k := by
  induction len generalizing n k with
  | zero => simp at hk
  | succ len ih =>
    rw [natImage, imageBit_cons]
    split
    · rename_i hlt
      rw [BitVec.getLsbD_ofNat, decide_eq_true hlt, Bool.true_and]
    · rw [ih _ (by omega), show n / 256 = n / 2 ^ 8 from rfl, Nat.testBit_div_two_pow]
      congr 1
      omega

/-- A bit of an image is the bit of its number. -/
theorem testBit_imageNat (image : List Byte) (k : Nat) : (imageNat image).testBit k = imageBit image k := by
  induction image generalizing k with
  | nil => simp [imageNat, imageBit]
  | cons b rest ih =>
    have hsplit : imageNat (b :: rest) = 2 ^ 8 * imageNat rest + b.toNat := Nat.add_comm _ _
    rw [hsplit, Nat.testBit_two_pow_mul_add _ b.isLt, imageBit_cons, ih, BitVec.getLsbD]

/-! ## The output image (R77) -/

theorem testBit_foldl_or {α : Type} (f : α → Nat) (l : List α) (start k : Nat) :
    (l.foldl (fun acc r => acc ||| f r) start).testBit k = (start.testBit k || l.any fun r => (f r).testBit k) := by
  induction l generalizing start with
  | nil => simp
  | cons r rest ih => rw [List.foldl_cons, ih, Nat.testBit_or, List.any_cons, Bool.or_assoc]

/-- A record drives the bits at its offset, as many as its width, with its demand's. -/
theorem testBit_outputBits (r : PointRecord) (k : Nat) :
    (outputBits r).testBit k = true ↔
      r.imageOffset ≤ k ∧ k < r.imageOffset + r.width ∧ r.demand.getLsbD (k - r.imageOffset) = true := by
  unfold outputBits
  rw [Nat.testBit_two_pow_mul, Nat.testBit_mod_two_pow, Bool.and_eq_true, Bool.and_eq_true, decide_eq_true_iff,
    decide_eq_true_iff, BitVec.getLsbD]
  refine and_congr_right fun hle => and_congr_left' ?_
  omega

theorem PointRecord.drivenBy_iff (r : PointRecord) (n : NodeSlot) :
    r.drivenBy n = true ↔ r.state = .live ∧ r.direction = .out ∧ r.nodeSlot = n := by
  rw [PointRecord.drivenBy, Bool.and_eq_true, PointRecord.liveOf_iff, beq_iff_eq, and_assoc, and_comm (a := r.nodeSlot = n)]

theorem State.imageBit_outputImage {s : State} {n : NodeSlot} {k : Nat}
    (hk : k < 8 * (s.node n).identity.outputLength) :
    imageBit (s.outputImage n) k = true ↔ ∃ i, (s.point i).drivenBy n = true ∧ (outputBits (s.point i)).testBit k = true := by
  unfold State.outputImage
  rw [imageBit_natImage _ hk, testBit_foldl_or, table_toList]
  simp [State.point]

/-! ## Extracted values (R89) -/

theorem testBit_imageBits (image : List Byte) (offset width k : Nat) :
    (imageBits image offset width).testBit k = (decide (k < width) && imageBit image (offset + k)) := by
  rw [imageBits, Nat.testBit_mod_two_pow, Nat.testBit_div_two_pow, testBit_imageNat, Nat.add_comm]

theorem PointRecord.extracted_signed {r : PointRecord} (h : r.kind = .signed) (image : List Byte) :
    r.extracted image = (BitVec.ofNat r.width (imageBits image r.imageOffset r.width)).signExtend 32 := by
  unfold PointRecord.extracted
  rw [h]

theorem PointRecord.extracted_of_not_signed {r : PointRecord} (h : r.kind ≠ .signed) (image : List Byte) :
    r.extracted image = BitVec.ofNat 32 (imageBits image r.imageOffset r.width) := by
  unfold PointRecord.extracted
  split
  · contradiction
  · rfl

/-- Settles O46: an image's bits are those of its number, which the records' bits make up, or from which a record's are taken. -/
theorem imagesCarryTheBits : Obligations.ImagesCarryTheBits := by
  refine ⟨fun s n => ⟨natImage_length _ _, fun k hk => ?_⟩, fun r image k hpos hmax hk => ?_⟩
  · simp only [State.imageBit_outputImage hk, PointRecord.drivenBy_iff, testBit_outputBits, and_assoc]
  · by_cases hsigned : r.kind = .signed
    · rw [PointRecord.extracted_signed hsigned, BitVec.getLsbD_signExtend, BitVec.msb_eq_getLsbD_last, if_pos hsigned]
      simp only [BitVec.getLsbD_ofNat, testBit_imageBits, hk, decide_true, Bool.true_and]
      split
      · rename_i hlt
        simp [hlt]
      · simp [show r.width - 1 < r.width by omega, show r.imageOffset + (r.width - 1) = r.imageOffset + r.width - 1 by omega]
    · rw [PointRecord.extracted_of_not_signed hsigned, if_neg hsigned, BitVec.getLsbD_ofNat, testBit_imageBits]
      split
      · rename_i hlt
        simp [hlt, hk]
      · rename_i hge
        simp [hge]

end Sys2Proof.Machine
end

section
/-! What the levels of a line amount to (R59, R61), and which complete answers are accepted (R62). -/

namespace Sys2Proof.Machine

/-! ## Characters (R59) -/

/-- A start bit, the bits of a byte, least significant first, and a stop bit of either level. -/
def characterLevels (stop : Bool) (b : Byte) : List Bool :=
  false :: ((List.finRange 8).map fun k => b.getLsbD k.val) ++ [stop]

theorem frameLevels_eq (frame : List Byte) : frameLevels frame = frame.flatMap (characterLevels true) := rfl

theorem frameLevels_length (frame : List Byte) : (frameLevels frame).length = 10 * frame.length := by
  induction frame with
  | nil => rfl
  | cons b rest ih =>
    rw [frameLevels_eq] at ih ⊢
    rw [List.flatMap_cons, List.length_append, ih, List.length_cons, Nat.mul_succ, Nat.add_comm]
    rfl

/-- While an addressed call waits, TXDn carries its frame (R59, R60). -/
theorem LinkRecord.sending_of_waiting {r : LinkRecord} {c : Call} (hcall : r.call = some c) (hwaiting : c.waiting = true) :
    r.sending = frameLevels c.frame := by
  unfold LinkRecord.sending
  rw [hcall]
  exact if_pos hwaiting

/-! ## The receiver (R59, R61) -/

/-- The characters received so far do not end the wait (R61): the length byte has not come, or names a longer answer. -/
def unfinished (got : List Byte) : Prop := ∀ n : Byte, got[3]? = some n → n.toNat ≤ 40 ∧ got.length < 5 + n.toNat

theorem unfinished.of_append {got more : List Byte} (h : unfinished (got ++ more)) : unfinished got := fun n hn => by
  obtain ⟨hin, -⟩ := List.getElem?_eq_some_iff.mp hn
  obtain ⟨hle, hlt⟩ := h n (by rw [List.getElem?_append_left hin, hn])
  rw [List.length_append] at hlt
  exact ⟨hle, by omega⟩

theorem receptionOf_of_unfinished {got : List Byte} (h : unfinished got) : receptionOf got = none := by
  unfold receptionOf
  split
  · rfl
  · rename_i n hn
    obtain ⟨hle, hlt⟩ := h n hn
    exact (if_neg (Nat.not_lt.mpr hle)).trans (if_neg (by omega))

theorem completeAnswer_iff (frame : List Byte) :
    completeAnswer frame = true ↔ ∃ n : Byte, frame[3]? = some n ∧ n.toNat ≤ 40 ∧ frame.length = 5 + n.toNat := by
  unfold completeAnswer
  cases frame[3]? with
  | none => simp
  | some n =>
    simp only [Bool.and_eq_true, decide_eq_true_iff, Option.some.injEq, exists_eq_left']
    rfl

theorem receptionOf_of_complete {frame : List Byte} (h : completeAnswer frame = true) :
    receptionOf frame = some (.complete frame) := by
  obtain ⟨n, hn, hle, hlength⟩ := (completeAnswer_iff frame).mp h
  unfold receptionOf
  rw [hn]
  exact (if_neg (Nat.not_lt.mpr hle)).trans (if_pos hlength)

/-- A complete answer ends the wait with its last character only. -/
theorem unfinished_of_complete {init : List Byte} {last : Byte} (h : completeAnswer (init ++ [last]) = true) :
    unfinished init := fun m hm => by
  obtain ⟨n, hn, hle, hlength⟩ := (completeAnswer_iff _).mp h
  obtain ⟨hin, -⟩ := List.getElem?_eq_some_iff.mp hm
  obtain rfl : n = m := Option.some.inj (by rw [← hn, ← hm, List.getElem?_append_left hin])
  rw [List.length_append, List.length_singleton] at hlength
  exact ⟨hle, by omega⟩

theorem receptionOf_of_badLength {good : List Byte} {b : Byte} (hlength : good.length = 3) (hb : 40 < b.toNat) :
    receptionOf (good ++ [b]) = some (.badLength b) := by
  have hget : (good ++ [b])[3]? = some b := hlength ▸ List.getElem?_concat_length
  unfold receptionOf
  rw [hget]
  exact if_pos hb

theorem guardMet_iff (idle : Nat) : guardMet idle = true ↔ 20 ≤ idle := decide_eq_true_iff

section
variable {c : Settings} {got : List Byte}

theorem receive_bits (bits more : List Bool) (rest : List Bool) (h : bits.length + more.length ≤ 8) :
    receive c got (some bits) 0 (more ++ rest) = receive c got (some (bits ++ more)) 0 rest := by
  induction more generalizing bits with
  | nil => simp
  | cons level more ih =>
    rw [List.length_cons] at h
    have hnext : receive c got (some bits) 0 (level :: (more ++ rest)) =
        receive c got (some (bits ++ [level])) 0 (more ++ rest) := if_pos (by omega)
    rw [List.cons_append, hnext, ih _ (by rw [List.length_append, List.length_singleton]; omega), List.append_assoc]
    rfl

/-- The receiver at the stop bit of a character (R59, R61). -/
theorem receive_characterLevels (stop : Bool) (b : Byte) (idle : Nat) (rest : List Bool) :
    receive c got none idle (characterLevels stop b ++ rest) =
      if stop then
        match receptionOf (got ++ [b]) with
        | some e => some e
        | none => receive c (got ++ [b]) none 0 rest
      else some .framingFault := by
  have hbits : byteOfBits ((List.finRange 8).map fun k => b.getLsbD k.val) = b := byteOfBits_getLsbD b
  have hstart : receive c got none idle (characterLevels stop b ++ rest) =
      receive c got (some []) 0 (((List.finRange 8).map fun k => b.getLsbD k.val) ++ (stop :: rest)) := by
    unfold characterLevels
    rw [List.cons_append, List.cons_append, List.append_assoc]
    rfl
  rw [hstart, receive_bits _ _ _ (by simp), List.nil_append]
  generalize hchar : (List.finRange 8).map (fun k => b.getLsbD k.val) = bits at hbits
  have hlength : ¬bits.length < 8 := by simp [← hchar]
  rw [← hbits]
  exact if_neg hlength

/-- A character that ends the wait. -/
theorem receive_character_last {b : Byte} {e : Reception} (h : receptionOf (got ++ [b]) = some e) (idle : Nat)
    (rest : List Bool) : receive c got none idle (characterLevels true b ++ rest) = some e := by
  rw [receive_characterLevels, if_pos rfl, h]

/-- Characters that do not end the wait are received, and the idle time counts anew (R61). -/
theorem receive_unfinished {good : List Byte} (h : unfinished (got ++ good)) (idle : Nat) (rest : List Bool) :
    receive c got none idle (good.flatMap (characterLevels true) ++ rest) =
      receive c (got ++ good) none (if good = [] then idle else 0) rest := by
  induction good generalizing got idle with
  | nil => simp
  | cons b good ih =>
    have hassoc : got ++ b :: good = (got ++ [b]) ++ good := by simp
    rw [hassoc] at h ⊢
    rw [List.flatMap_cons, List.append_assoc, receive_characterLevels, if_pos rfl, receptionOf_of_unfinished h.of_append]
    simp only [ih h, ite_self, List.cons_ne_nil, if_false]

/-- A quiet line ends the wait with no answer when the reply timeout has run out (R61). -/
theorem receive_timedOut {idle quiet : Nat} (hpos : 0 < quiet) (hout : c.timedOut (idle + quiet) = true)
    (rest : List Bool) : receive c [] none idle (List.replicate quiet true ++ rest) = some .noAnswer := by
  induction quiet generalizing idle with
  | zero => simp at hpos
  | succ quiet ih =>
    rw [List.replicate_succ, List.cons_append]
    change (if c.timedOut (idle + 1) then some .noAnswer
      else receive c [] none (idle + 1) (List.replicate quiet true ++ rest)) = _
    split
    · rfl
    · rename_i hwait
      have hout' : c.timedOut (idle + 1 + quiet) = true := by rwa [Nat.add_right_comm, Nat.add_assoc]
      refine ih (Nat.pos_of_ne_zero fun hzero => hwait ?_) hout'
      rwa [hzero] at hout'

/-- A quiet line before the reply timeout runs out is waited through. -/
theorem receive_quiet {idle quiet : Nat} (hwait : c.timedOut (idle + quiet) = false) (rest : List Bool) :
    receive c [] none idle (List.replicate quiet true ++ rest) = receive c [] none (idle + quiet) rest := by
  induction quiet generalizing idle with
  | zero => rfl
  | succ quiet ih =>
    have hwait' : c.timedOut (idle + 1 + quiet) = false := by rwa [Nat.add_right_comm, Nat.add_assoc]
    have hnow : ¬c.timedOut (idle + 1) = true := by
      simp only [Settings.timedOut, decide_eq_false_iff_not, decide_eq_true_iff] at hwait' ⊢
      exact fun h => hwait' (h.trans (Nat.mul_le_mul_right _ (Nat.le_add_right _ _)))
    rw [List.replicate_succ, List.cons_append]
    refine (if_neg hnow).trans ?_
    rw [ih hwait', Nat.add_right_comm, Nat.add_assoc]

/-- After a quiet line and characters that do not end the wait, the receiver stands with these characters received. -/
theorem receive_answer {quiet : Nat} {good : List Byte} (hwait : c.timedOut quiet = false) (hgood : unfinished good)
    (rest : List Bool) :
    receive c [] none 0 (List.replicate quiet true ++ (good.flatMap (characterLevels true) ++ rest)) =
      receive c good none (if good = [] then quiet else 0) rest := by
  have hquiet := receive_quiet (idle := 0) (by rwa [Nat.zero_add]) (good.flatMap (characterLevels true) ++ rest)
  rw [Nat.zero_add] at hquiet
  exact hquiet.trans (receive_unfinished (got := []) hgood quiet rest)

/-- Two character times of idle line within an answer end the wait (R61). -/
theorem receive_truncated (hgot : got ≠ []) {idle left : Nat} (hguard : idle + (left + 1) = 20) (rest : List Bool) :
    receive c got none idle (List.replicate (left + 1) true ++ rest) = some .truncated := by
  induction left generalizing idle with
  | zero => exact (if_neg hgot).trans (if_pos ((guardMet_iff _).mpr (by omega)))
  | succ left ih =>
    rw [List.replicate_succ, List.cons_append]
    have hwait : ¬guardMet (idle + 1) = true := mt (guardMet_iff _).mp (by omega)
    exact (if_neg hgot).trans ((if_neg hwait).trans (ih (by omega)))

end

/-! ## The end of a wait (R61) -/

section
variable {s : State} {l : LinkId} {c : Call} {a : NodeAddr}

/-- While an addressed call waits, the levels after those of the call amount to what the receiver makes of them. -/
theorem LinkRecord.lineCommand_of_awaits (h : s.awaits l c a) {sent : List Bool} (hsent : sent.length = 10 * c.frame.length)
    (levels : List Bool) :
    (s.link l).lineCommand l (sent ++ levels) =
      (receive (s.link l).settings [] none 0 levels).map fun e => e.command l := by
  have hawaited : (s.link l).awaited.isSome = true := by rw [State.awaited_of_awaits h]; rfl
  have hlength : (s.link l).sending.length = sent.length := by
    rw [LinkRecord.sending_of_waiting h.1 h.2.1, frameLevels_length, hsent]
  have hheard : (s.link l).heard (sent ++ levels) = levels := by rw [LinkRecord.heard, hlength, List.drop_left]
  unfold LinkRecord.lineCommand
  rw [if_pos hawaited, hheard]

/-! ## Which complete answers are accepted (R62) -/

/-- An accepted run of characters that is one complete answer is the answer frame of its status and payload. -/
theorem answerFrame_of_accept {frame : List Byte} {ans : Answer} (htarget : c.target = some a)
    (hcomplete : completeAnswer frame = true) (haccept : acceptAnswer c frame = some ans) :
    ∃ status payload, c.answerFits payload.length ∧ frame = answerFrame a c.kind c.seqBit status payload := by
  unfold acceptAnswer at haccept
  rw [htarget] at haccept
  split at haccept
  case h_2 => cases haccept
  rename_i address kind status len rest ha
  cases ha
  dsimp only at haccept
  split at haccept
  case isFalse => cases haccept
  rename_i hchecks
  obtain ⟨-, hcrc, haddress, hkind, hlegal⟩ := hchecks
  obtain ⟨n, hn, -, hlength⟩ := (completeAnswer_iff _).mp hcomplete
  obtain rfl : len = n := Option.some.inj hn
  have hrest : rest.length = len.toNat + 1 := by simp only [List.length_cons] at hlength; omega
  have hpayload : (rest.take len.toNat).length = len.toNat := by rw [List.length_take]; omega
  have hsplit : rest = rest.take len.toNat ++ [crc8 (address :: kind :: status :: len :: rest.take len.toNat)] := by
    conv_lhs => rw [← List.take_append_drop len.toNat rest]
    rw [List.drop_eq_getElem?_toList_append, hcrc, List.drop_of_length_le (by omega)]
    rfl
  have haddress' : byte (0x81 + a.val) = address := by rw [haddress]; exact congrArg byte (by omega)
  refine ⟨status, rest.take len.toNat, by rw [hpayload]; exact (answerLengthLegal_iff c _).mp hlegal, ?_⟩
  unfold answerFrame
  rw [hpayload, byte_of_toNat, ← kindByte_eq, ← hkind, haddress']
  conv_lhs => rw [hsplit]
  rfl

end

/-- Settles O49: the characters of the wait one by one, and the checks on a complete answer. -/
theorem answersAreCheckedWhole : Obligations.AnswersAreCheckedWhole := by
  intro s l c a h r levels unf
  have hsending : r.sending = frameLevels c.frame := LinkRecord.sending_of_waiting h.1 h.2.1
  refine ⟨⟨hsending.trans (frameLevels_eq _), fun k => ?_⟩, fun sent rest quiet hsent => ?_, fun status payload hmax hfits => ?_,
    fun frame hcomplete hother => ?_⟩
  · rw [LinkRecord.txenHigh, hsending, frameLevels_length, decide_eq_true_iff]
  · intro heard
    have hline (after : List Bool) : heard after =
        (receive r.settings [] none 0 (List.replicate quiet true ++ (after ++ rest))).map fun e => e.command l :=
      LinkRecord.lineCommand_of_awaits h hsent _
    refine ⟨fun hquiet => ?_, fun hpos hout => ?_⟩
    · have hwait : r.settings.timedOut quiet = false := decide_eq_false (Nat.not_le.mpr hquiet)
      have hends {good : List Byte} {after : List Bool} {e : Reception} (hgood : unfinished good)
          (he : receive r.settings good none (if good = [] then quiet else 0) (after ++ rest) = some e) :
          heard (levels good true ++ after) = some (e.command l) := by
        rw [hline, List.append_assoc]
        exact congrArg (Option.map fun e => e.command l) ((receive_answer hwait hgood _).trans he)
      have hlevel (stop : Bool) (b : Byte) : levels [b] stop = characterLevels stop b := List.append_nil _
      refine ⟨fun frame hcomplete => ?_, fun good b hgood => ?_, fun good hne hgood => ?_, fun good b hlength hb => ?_⟩
      · obtain rfl | ⟨init, last, rfl⟩ := frame.eq_nil_or_concat'
        · cases hcomplete
        have hlevels : levels (init ++ [last]) true = levels init true ++ levels [last] true := List.flatMap_append
        rw [hlevels, hlevel]
        exact hends (unfinished_of_complete hcomplete) (receive_character_last (receptionOf_of_complete hcomplete) _ _)
      · rw [hlevel]
        exact hends hgood (receive_characterLevels false b _ _)
      · refine hends (e := .truncated) hgood ?_
        rw [if_neg hne]
        exact receive_truncated hne rfl rest
      · have hgood : unfinished good := fun n hn => by
          obtain ⟨hin, -⟩ := List.getElem?_eq_some_iff.mp hn
          omega
        rw [hlevel]
        exact hends hgood (receive_character_last (receptionOf_of_badLength hlength hb) _ _)
    · rw [hline, List.nil_append, receive_timedOut hpos (by rw [Nat.zero_add]; exact decide_eq_true hout)]
      rfl
  · exact exec_answerReceived_of_accept h (acceptAnswer_answerFrame status h.2.2 hmax ((answerLengthLegal_iff c _).mpr hfits))
  · have hnone : acceptAnswer c frame = none := by
      rw [Option.eq_none_iff_forall_ne_some]
      intro ans haccept
      obtain ⟨status, payload, hfits, hframe⟩ := answerFrame_of_accept h.2.2 hcomplete haccept
      exact hother status payload hfits hframe
    simp only [exec, execAnswerReceived, State.awaited_of_awaits h, hnone]
    rfl

end Sys2Proof.Machine
end

section
/-! SUPPORT. What the close of a session leaves of the part (R105, R117, R124, R139, R157). -/

namespace Sys2Proof.Machine

section
variable (s : State) (p : PortId)

theorem State.closeSession_point (i : DirSlot) :
    (s.closeSession p).point i =
      ((s.event fun i r => r.closeFor p ((s.membersOfPort p).contains i)).point i).dropWatcher p := by
  unfold State.closeSession
  simp only [State.setPort_point, State.updatePoints_point, State.mapLeases_point]

theorem State.closeSession_leaseAt (k : LeaseIndex) :
    (s.closeSession p).leaseAt k = if (s.leaseAt k).ofPort p then (s.leaseAt k).freed else s.leaseAt k := by
  unfold State.closeSession
  simp only [State.setPort_leaseAt, State.updatePoints_leaseAt, State.mapLeases_leaseAt, State.event_leaseAt]
  rfl

/-- The port that closes keeps its slots, its window, its notices and its attention mask (R157). -/
theorem State.closeSession_port_self :
    (s.closeSession p).port p = { s.port p with markedCount := 0, scanCursor := 0, sessionOpen := false } := by
  unfold State.closeSession State.event
  simp only [State.setPort_port, if_true, State.updatePoints_port, State.mapLeases_port]
  rfl

/-- Of another port the marked count alone can change (R129). -/
theorem State.closeSession_port_other {q : PortId} (h : q ≠ p) :
    (s.closeSession p).port q = { s.port q with markedCount := ((s.closeSession p).port q).markedCount } := by
  unfold State.closeSession State.event
  simp only [State.setPort_port, if_neg h, State.updatePoints_port, State.mapLeases_port]
  rfl

theorem State.closeSession_frame :
    s.closeSession p =
      (let t := s.closeSession p
       { s with points := t.points, leases := t.leases, port0 := t.port0, port1 := t.port1, port2 := t.port2 }) := by
  cases p <;> rfl

theorem State.closeSession_isSupervisor (q : PortId) : (s.closeSession p).isSupervisor q = s.isSupervisor q := by
  cases p <;> rfl

end

end Sys2Proof.Machine
end

section
/-! The laws of values and pending (R85, R86) on one record: every change of a record keeps them, and shows no substitute that the record did
not show. SUBSTITUTE alone shows another. -/

namespace Sys2Proof.Machine

/-! ## The laws on one record -/

/-- R86 of one record: an OUT record is pending exactly when applied is absent or differs from demand. -/
def PointRecord.pendingLawful (r : PointRecord) : Prop :=
  r.direction = .out → (r.pending = true ↔ r.applied = none ∨ r.applied ≠ some r.demand)

theorem PointRecord.valuesLawful_iff (r : PointRecord) :
    r.valuesLawful ↔
      (r.direction = .inp → r.fieldQuality ∈ [Quality.none, .good, .suspect, .stale, .lost] ∧
        (r.substPort = none → r.value = r.fieldValue ∧ r.quality = r.fieldQuality) ∧
        (r.substPort ≠ none → r.quality = .substituted)) := by
  unfold PointRecord.valuesLawful
  cases r.substPort <;> simp

theorem PointRecord.valuesLawful_of_out {r : PointRecord} (h : r.direction = .out) : r.valuesLawful :=
  fun hinp => by rw [h] at hinp; cases hinp

theorem PointRecord.pendingLawful_of_inp {r : PointRecord} (h : r.direction = .inp) : r.pendingLawful :=
  fun hout => by rw [h] at hout; cases hout

/-- The laws read nothing that a reportable change writes (R128). -/
@[simp] theorem PointRecord.valuesLawful_report (b a : PointRecord) : (report b a).valuesLawful ↔ a.valuesLawful := by
  simp [PointRecord.valuesLawful_iff]

@[simp] theorem PointRecord.pendingLawful_report (b a : PointRecord) : (report b a).pendingLawful ↔ a.pendingLawful := by
  simp [PointRecord.pendingLawful]

theorem PointRecord.pendingLawful_recompute (r : PointRecord) : r.recompute.pendingLawful := by
  intro _
  simp only [PointRecord.recompute, bne_iff_ne]
  exact ⟨.inr, fun h => h.elim (fun h => by simp [h]) id⟩

/-! ## Changes that keep them -/

/-- The one record comes from the other by a change that keeps the laws of values and pending, and that shows no substitute but the one the
record showed. -/
structure PointRecord.KeepsValues (r r' : PointRecord) : Prop where
  values : r.valuesLawful → r'.valuesLawful
  pending : r.pendingLawful → r'.pendingLawful
  subst : r'.substPort = none ∨ (r'.substPort = r.substPort ∧ r'.direction = r.direction)

namespace PointRecord.KeepsValues

theorem refl (r : PointRecord) : r.KeepsValues r := ⟨id, id, .inr ⟨rfl, rfl⟩⟩

theorem trans {r r' r'' : PointRecord} (h : r.KeepsValues r') (h' : r'.KeepsValues r'') : r.KeepsValues r'' where
  values := h'.values ∘ h.values
  pending := h'.pending ∘ h.pending
  subst := by
    obtain hnone | ⟨hport, hdir⟩ := h'.subst
    · exact .inl hnone
    · rw [hport, hdir]; exact h.subst

theorem report {r r' : PointRecord} (h : r.KeepsValues r') : r.KeepsValues (report r r') := by
  obtain ⟨hvalues, hpending, hsubst⟩ := h
  exact ⟨fun hr => by simpa using hvalues hr, fun hr => by simpa using hpending hr, by simpa using hsubst⟩

/-- A record at reset values shows none of the values before. -/
theorem freed (r : PointRecord) : r.KeepsValues r.freed :=
  ⟨fun _ _ => ⟨.head _, rfl, rfl⟩, fun _ => nofun, .inl rfl⟩

/-- A reserved IN point has field quality NONE, and a reserved OUT point is pending without applied (R2, R9). -/
theorem reserved (r : PointRecord) (n : NodeSlot) (index offset : Nat) (d : Descriptor) :
    r.KeepsValues (reservedRecord r.generation n index offset d) :=
  ⟨fun _ _ => ⟨.head _, rfl, rfl⟩, fun _ hout => by simp_all [reservedRecord, PointRecord.reset], .inl rfl⟩

/-- A change of an OUT record after which its pending is recomputed. -/
theorem recomputed {r r' : PointRecord} (hvalues : r.valuesLawful → r'.valuesLawful) (hport : r'.substPort = r.substPort)
    (hdir : r'.direction = r.direction) : r.KeepsValues r'.recompute :=
  ⟨hvalues, fun _ => r'.pendingLawful_recompute, .inr ⟨hport, hdir⟩⟩

theorem setDemand (r : PointRecord) (v : Word32) : r.KeepsValues (r.setDemand v) := recomputed id rfl rfl

theorem release (r : PointRecord) : r.KeepsValues r.release := recomputed id rfl rfl

/-- A change of an IN record that keeps its substitute: without one it shows the field's value and quality. -/
theorem inp {r r' : PointRecord} (hdir : r.direction = .inp) (hdir' : r'.direction = r.direction)
    (hport : r'.substPort = r.substPort)
    (hfield : r.valuesLawful → r'.fieldQuality ∈ [Quality.none, .good, .suspect, .stale, .lost])
    (hshown : r.substPort = none → r.valuesLawful → r'.value = r'.fieldValue ∧ r'.quality = r'.fieldQuality)
    (hsubst : r.substPort ≠ none → r'.quality = r.quality) : r.KeepsValues r' where
  values hr := r'.valuesLawful_iff.mpr fun _ => by
    obtain ⟨-, -, hquality⟩ := r.valuesLawful_iff.mp hr hdir
    rw [hport]
    exact ⟨hfield hr, fun hnone => hshown hnone hr, fun hsome => (hsubst hsome).trans (hquality hsome)⟩
  pending _ := PointRecord.pendingLawful_of_inp (hdir'.trans hdir)
  subst := .inr ⟨hport, hdir'⟩

/-- A change of an OUT record that leaves demand, applied and pending. -/
theorem out {r r' : PointRecord} (hdir : r.direction = .out) (hdir' : r'.direction = r.direction)
    (hport : r'.substPort = r.substPort) (hpending : r.pendingLawful → r'.pendingLawful) : r.KeepsValues r' :=
  ⟨fun _ => PointRecord.valuesLawful_of_out (hdir'.trans hdir), hpending, .inr ⟨hport, hdir'⟩⟩

theorem endSubstitution (r : PointRecord) : r.KeepsValues r.endSubstitution where
  values hr hdir := ⟨(hr hdir).1, rfl, rfl⟩
  pending := id
  subst := .inl rfl

theorem closeFor (r : PointRecord) (p : PortId) (member : Bool) : r.KeepsValues (r.closeFor p member) := by
  have hrelease : r.KeepsValues (if member then r.release else r) := by
    split
    · exact release r
    · exact refl r
  have hend (x : PointRecord) : x.KeepsValues (if x.substPort = some p then x.endSubstitution else x) := by
    split
    · exact endSubstitution x
    · exact refl x
  exact hrelease.trans (hend _)

theorem dropWatcher (r : PointRecord) (p : PortId) : r.KeepsValues (r.dropWatcher p) := by
  unfold PointRecord.dropWatcher
  dsimp only
  split
  · exact freed _
  · exact ⟨id, id, .inr ⟨rfl, rfl⟩⟩

theorem acknowledgedBy (r : PointRecord) (p : PortId) : r.KeepsValues (r.acknowledgedBy p) := by
  unfold PointRecord.acknowledgedBy
  split
  · exact dropWatcher r p
  · exact ⟨id, id, .inr ⟨rfl, rfl⟩⟩

/-- Retirement ends a substitution, after which value and quality are the field's (R15). -/
theorem retire (r : PointRecord) : r.KeepsValues r.retire := by
  have hwithdrawn : r.KeepsValues r.withdrawn := by
    unfold PointRecord.withdrawn
    split
    · exact ⟨fun _ _ => ⟨by simp, rfl, rfl⟩, id, .inl rfl⟩
    · exact ⟨id, id, .inr ⟨rfl, rfl⟩⟩
  unfold PointRecord.retire
  split
  · exact freed r
  · exact hwithdrawn.trans ⟨id, id, .inr ⟨rfl, rfl⟩⟩

theorem lose (r : PointRecord) : r.KeepsValues r.lose := by
  cases hdir : r.direction with
  | out => rw [PointRecord.lose_out hdir]; exact out hdir rfl rfl id
  | inp =>
    rw [PointRecord.lose_inp hdir]
    refine inp hdir rfl rfl (fun _ => by simp) (fun hnone hr => ?_) fun hsome => if_neg hsome
    obtain ⟨-, hshown, -⟩ := r.valuesLawful_iff.mp hr hdir
    exact ⟨(hshown hnone).1, if_pos hnone⟩

theorem exchangeFailed (r : PointRecord) : r.KeepsValues r.exchangeFailed := by
  cases hdir : r.direction with
  | out => rw [PointRecord.exchangeFailed_out hdir]; exact out hdir rfl rfl id
  | inp =>
    rw [PointRecord.exchangeFailed_inp hdir]
    refine inp hdir rfl rfl (fun hr => ?_) (fun hnone hr => ?_) fun hsome => if_neg fun h => hsome h.1
    · obtain ⟨hfield, -, -⟩ := r.valuesLawful_iff.mp hr hdir
      dsimp only
      split
      · simp
      · exact hfield
    · obtain ⟨-, hshown, -⟩ := r.valuesLawful_iff.mp hr hdir
      exact ⟨(hshown hnone).1, by simp [hnone, (hshown hnone).2]⟩

theorem takeInput {r : PointRecord} (hdir : r.direction = .inp) (ans : Answer) : r.KeepsValues (r.takeInput ans) := by
  have hquality (c : Prop) [Decidable c] :
      (if c then Quality.suspect else .good) ∈ [Quality.none, .good, .suspect, .stale, .lost] := by split <;> simp
  unfold PointRecord.takeInput
  dsimp only
  split
  · rename_i hsome
    exact inp hdir rfl rfl (fun _ => hquality _) (fun hnone => by simp [hnone] at hsome) fun _ => rfl
  · rename_i hnone
    exact inp hdir rfl rfl (fun _ => hquality _) (fun _ _ => ⟨rfl, rfl⟩) fun hsome => by simp at hnone; exact absurd hnone hsome

/-- An OUT record changes, and its applied with it (R86). -/
theorem setApplied {r r' : PointRecord} (hdir : r.direction = .out) (hdir' : r'.direction = r.direction)
    (hport : r'.substPort = r.substPort) (v : Option Word32) : r.KeepsValues (r'.setApplied v) :=
  recomputed (fun _ => PointRecord.valuesLawful_of_out (hdir'.trans hdir)) hport hdir'

theorem exchanged (r : PointRecord) (ans : Answer) : r.KeepsValues (r.exchanged ans) := by
  unfold PointRecord.exchanged
  split
  · rename_i hdir; exact takeInput hdir ans
  · rename_i hdir
    split
    · exact setApplied hdir (by rfl) (by rfl) none
    · unfold PointRecord.confirm
      split
      · exact setApplied hdir (by rfl) (by rfl) _
      · exact setApplied hdir (by rfl) (by rfl) none

theorem holdCleared (r : PointRecord) : r.KeepsValues r.holdCleared := by
  unfold PointRecord.holdCleared
  split
  · exact refl r
  · rename_i hdir; exact setApplied hdir (by rfl) (by rfl) none

theorem resyncReturn (r : PointRecord) : r.KeepsValues r.resyncReturn := by
  unfold PointRecord.resyncReturn
  split
  · rename_i hdir; exact setApplied hdir (by rfl) (by rfl) none
  · exact refl r

end PointRecord.KeepsValues

/-- A substitute is shown with quality SUBSTITUTED (R102). -/
theorem PointRecord.valuesLawful_substituteBy {r : PointRecord} (h : r.valuesLawful) (p : PortId) (v : Word32) :
    (r.substituteBy p v).valuesLawful := fun hdir => ⟨(h hdir).1, rfl⟩

end Sys2Proof.Machine
end

section
/-! The laws of values and pending (R85, R86, R105) on the part: only SUBSTITUTE, OPEN_SESSION, CLOSE_SESSION and a reset change which ports
have sessions and substitutes; every other operation is made of updates that keep each record's values and each session. -/

namespace Sys2Proof.Machine

/-- The part keeps the open sessions and the roles of another, and each record keeps the laws of values. -/
structure State.KeepsValues (s t : State) : Prop where
  session : ∀ p, (s.port p).sessionOpen = true → (t.port p).sessionOpen = true
  supervisors : t.supervisors = s.supervisors
  point : ∀ i, (s.point i).KeepsValues (t.point i)

/-- R105: the substituting port of an IN point has an open session and the supervisor role. -/
def State.substitutesLawful (s : State) : Prop :=
  ∀ i p, (s.point i).direction = .inp → (s.point i).substPort = some p →
    (s.port p).sessionOpen = true ∧ s.isSupervisor p = true

theorem valuesLaw_iff (s : State) : ValuesLaw s ↔ (∀ i, (s.point i).valuesLawful) ∧ s.substitutesLawful := forall_and

theorem pendingLaw_iff (s : State) : PendingLaw s ↔ ∀ i, (s.point i).pendingLawful := Iff.rfl

/-- The laws of values and pending (R85, R86, R105). -/
def ValueLaws (s : State) : Prop := ValuesLaw s ∧ PendingLaw s

namespace State.KeepsValues

theorem laws {s t : State} (h : s.KeepsValues t) (hs : ValueLaws s) : ValueLaws t := by
  obtain ⟨hvalues, hpending⟩ := hs
  obtain ⟨hrecords, hsubst⟩ := (valuesLaw_iff s).mp hvalues
  refine ⟨(valuesLaw_iff t).mpr ⟨fun i => (h.point i).values (hrecords i), fun i p hdir hport => ?_⟩,
    (pendingLaw_iff t).mpr fun i => (h.point i).pending (hpending i)⟩
  obtain hnone | ⟨hport', hdir'⟩ := (h.point i).subst
  · rw [hnone] at hport; cases hport
  · obtain ⟨hsession, hrole⟩ := hsubst i p (hdir' ▸ hdir) (hport' ▸ hport)
    exact ⟨h.session p hsession, by unfold State.isSupervisor; rw [h.supervisors]; exact hrole⟩

theorem refl (s : State) : s.KeepsValues s := ⟨fun _ => id, rfl, fun _ => .refl _⟩

/-! ## Updates

Each rule appends one more update or operation to those that have kept the values so far. -/

section
variable {s t : State} (h : s.KeepsValues t)
include h

theorem setPort {p : PortId} {r : PortRecord} (hr : (t.port p).sessionOpen = true → r.sessionOpen = true) :
    s.KeepsValues (t.setPort p r) where
  session q hq := by
    rw [State.setPort_port]
    split
    · rename_i hqp; exact hr (hqp ▸ h.session q hq)
    · exact h.session q hq
  supervisors := by rw [State.setPort_supervisors]; exact h.supervisors
  point i := by rw [State.setPort_point]; exact h.point i

theorem setLink {l : LinkId} {r : LinkRecord} : s.KeepsValues (t.setLink l r) :=
  ⟨by simpa using h.session, by simpa using h.supervisors, by simpa using h.point⟩

theorem setNode {n : NodeSlot} {r : NodeRecord} : s.KeepsValues (t.setNode n r) :=
  ⟨by simpa using h.session, h.supervisors, h.point⟩

theorem mapNodes {f : NodeSlot → NodeRecord → NodeRecord} : s.KeepsValues (t.mapNodes f) :=
  ⟨by simpa using h.session, h.supervisors, h.point⟩

theorem setLease {k : LeaseIndex} {r : LeaseRecord} : s.KeepsValues (t.setLease k r) :=
  ⟨by simpa using h.session, h.supervisors, h.point⟩

theorem mapLeases {f : LeaseIndex → LeaseRecord → LeaseRecord} : s.KeepsValues (t.mapLeases f) :=
  ⟨by simpa using h.session, h.supervisors, h.point⟩

theorem setNameMap {m : List (Text × DirSlot)} : s.KeepsValues (t.setNameMap m) :=
  ⟨by simpa using h.session, h.supervisors, h.point⟩

theorem setPending {q : List Instr} : s.KeepsValues (t.setPending q) :=
  ⟨by simpa using h.session, h.supervisors, h.point⟩

theorem finishGrant {p : PortId} {r : Response} : s.KeepsValues (t.finishGrant p r) where
  session := (h.setPort (p := p) (r := { t.port p with slots := answerSlots r (t.port p).slots }) id).session
  supervisors := by rw [State.finishGrant_supervisors]; exact h.supervisors
  point i := by rw [State.finishGrant_point]; exact h.point i

theorem updatePoints {g : DirSlot → PointRecord → PointRecord} (hg : ∀ i (r : PointRecord), r.KeepsValues (g i r)) :
    s.KeepsValues (t.updatePoints g) where
  session := by simpa using h.session
  supervisors := h.supervisors
  point i := by rw [State.updatePoints_point]; exact (h.point i).trans (hg i _)

theorem event {f : DirSlot → PointRecord → PointRecord} (hf : ∀ i (r : PointRecord), r.KeepsValues (f i r)) :
    s.KeepsValues (t.event f) := h.updatePoints fun i r => (hf i r).report

/-- An update of the records that meet a test. -/
theorem updateWhere {c : DirSlot → PointRecord → Prop} [∀ i r, Decidable (c i r)] {f : DirSlot → PointRecord → PointRecord}
    (hf : ∀ i (r : PointRecord), r.KeepsValues (f i r)) : s.KeepsValues (t.updatePoints fun i r => if c i r then f i r else r) :=
  h.updatePoints fun i r => by
    split
    · exact hf i r
    · exact .refl r

/-- An event of the records that meet a test. -/
theorem eventWhere {c : DirSlot → PointRecord → Prop} [∀ i r, Decidable (c i r)] {f : DirSlot → PointRecord → PointRecord}
    (hf : ∀ i (r : PointRecord), r.KeepsValues (f i r)) : s.KeepsValues (t.event fun i r => if c i r then f i r else r) :=
  h.event fun i r => by
    split
    · exact hf i r
    · exact .refl r

/-! ## The operations of the directory and of the node table -/

theorem retireNode (n : NodeSlot) : s.KeepsValues (t.retireNode n) :=
  h.mapLeases.setNameMap.updateWhere fun _ r => .retire r

theorem releaseReservations (n : NodeSlot) : s.KeepsValues (t.releaseReservations n) := h.updateWhere fun _ r => .freed r

theorem publish (n : NodeSlot) : s.KeepsValues (t.publish n) := h.setNameMap.updateWhere fun _ _ => ⟨id, id, .inr ⟨rfl, rfl⟩⟩

theorem loseNodes (sel : NodeSlot → Bool) (cause : LostCause) : s.KeepsValues (t.loseNodes sel cause) :=
  h.mapNodes.eventWhere fun _ r => .lose r

theorem releaseMembers (members : List DirSlot) : s.KeepsValues (t.releaseMembers members) :=
  h.eventWhere fun _ r => .release r

theorem refuseNode {n : NodeSlot} {r : NodeRecord} {why : RefuseReason} : s.KeepsValues (t.refuseNode n r why) :=
  (h.releaseReservations n).setNode

theorem completeDescribing {n : NodeSlot} : s.KeepsValues (t.completeDescribing n) := (h.publish n).setNode

theorem clearSeqBit {l : LinkId} {a : NodeAddr} : s.KeepsValues (t.clearSeqBit l a) := h.setLink

theorem advanceCursor {n : NodeSlot} : s.KeepsValues (t.advanceCursor n) := by
  unfold State.advanceCursor
  dsimp only
  split
  · exact h.setNode.completeDescribing
  · exact h.setNode

theorem placeElement {n : NodeSlot} {d : Descriptor} : s.KeepsValues (t.placeElement n d) := by
  unfold State.placeElement
  dsimp only
  split
  · exact h.refuseNode
  split
  · exact h.setNode.advanceCursor
  split
  · exact h.refuseNode
  · exact (h.setNode.updateWhere fun _ r => .reserved r _ _ _ _).advanceCursor

theorem describeAnswered (n : NodeSlot) (ans : Answer) : s.KeepsValues (t.describeAnswered n ans) := by
  unfold State.describeAnswered
  dsimp only
  split
  · exact (h.releaseReservations n).setNode
  split
  · split
    · exact h.setNode.placeElement
    · exact h.refuseNode
  · exact h.refuseNode

theorem describeFailed (l : LinkId) (n : NodeSlot) : s.KeepsValues (t.describeFailed l n) := by
  unfold State.describeFailed
  dsimp only
  split
  · exact (h.releaseReservations n).setNode
  · exact h.setNode

theorem enterResync {n : NodeSlot} {r : NodeRecord} : s.KeepsValues (t.enterResync n r) :=
  h.setNode.updateWhere fun _ _ => ⟨id, id, .inr ⟨rfl, rfl⟩⟩

theorem exchangeAnswered (n : NodeSlot) (ans : Answer) : s.KeepsValues (t.exchangeAnswered n ans) := by
  unfold State.exchangeAnswered
  dsimp only
  split
  · exact h.enterResync
  · exact h.setNode.eventWhere fun _ r => .exchanged r ans

theorem clearHoldAnswered (n : NodeSlot) (ans : Answer) : s.KeepsValues (t.clearHoldAnswered n ans) := by
  unfold State.clearHoldAnswered
  dsimp only
  split
  · exact h.enterResync
  · exact h.setNode.eventWhere fun _ r => .holdCleared r

theorem exchangeFailed (l : LinkId) (n : NodeSlot) : s.KeepsValues (t.exchangeFailed l n) :=
  h.setNode.eventWhere fun _ r => by
    split
    · exact (PointRecord.KeepsValues.exchangeFailed r).trans (.lose _)
    · exact .exchangeFailed r

theorem newcomer {l : LinkId} {a : NodeAddr} {id : Option Identity} : s.KeepsValues (t.newcomer l a id) := by
  unfold State.newcomer
  dsimp only
  split
  · exact h.refuseNode
  split
  · exact h.refuseNode
  split
  · exact h.refuseNode
  split
  · exact h.setNode.clearSeqBit.completeDescribing
  · exact h.setNode.clearSeqBit

theorem returnNode {l : LinkId} {a : NodeAddr} : s.KeepsValues (t.returnNode l a) := h.setNode.clearSeqBit

theorem probeAnswered (l : LinkId) (a : NodeAddr) (ans : Answer) : s.KeepsValues (t.probeAnswered l a ans) := by
  unfold State.probeAnswered
  dsimp only
  split
  · exact h.setNode.newcomer
  split
  · split
    · exact h.setNode.returnNode.eventWhere fun _ r => .resyncReturn r
    split
    · exact h.setNode.returnNode.eventWhere fun _ _ => ⟨id, id, .inr ⟨rfl, rfl⟩⟩
    · exact h.setNode.setNode
  · exact (h.setNode.retireNode _).newcomer

theorem probeFailed (l : LinkId) (a : NodeAddr) : s.KeepsValues (t.probeFailed l a) := by
  unfold State.probeFailed
  dsimp only
  split
  · split
    · exact h.loseNodes _ _
    · exact h.setNode
  · exact h

theorem takeCompletion (l : LinkId) (a : NodeAddr) (kind : CallKind) (ans : Option Answer) :
    s.KeepsValues (t.takeCompletion l a kind ans) := by
  cases kind with
  | probe => cases ans with
    | none => exact h.probeFailed l a
    | some ans => exact h.probeAnswered l a ans
  | describe => cases ans with
    | none => exact h.describeFailed l _
    | some ans => exact h.describeAnswered _ ans
  | exchange => cases ans with
    | none => exact h.exchangeFailed l _
    | some ans => exact h.exchangeAnswered _ ans
  | clearHold => cases ans with
    | none => exact h.exchangeFailed l _
    | some ans => exact h.clearHoldAnswered _ ans
  | park => exact h.setNode

theorem discardCompletion (n : NodeSlot) (kind : CallKind) : s.KeepsValues (t.discardCompletion n kind) := by
  unfold State.discardCompletion
  split
  · exact h.updateWhere fun _ _ => ⟨id, id, .inr ⟨rfl, rfl⟩⟩
  · exact h

/-! ## The link engines -/

theorem startCycle {l : LinkId} : s.KeepsValues (t.startCycle l) := h.setLink.setLink

theorem proceed {l : LinkId} : s.KeepsValues (t.proceed l) := by
  unfold State.proceed
  split
  · split
    · exact h
    split
    · exact h.startCycle
    · exact h.setLink
  · exact h

theorem cycleExpiry (l : LinkId) : s.KeepsValues (t.cycleExpiry l) := by
  unfold State.cycleExpiry
  dsimp only
  split
  · exact h.startCycle
  split
  · exact h.setLink
  · exact h.setLink.proceed

theorem completeCall (l : LinkId) (c : Call) (a : NodeAddr) (ans : Option Answer) :
    s.KeepsValues (t.completeCall l c a ans) := by
  unfold State.completeCall
  dsimp only
  split
  · exact (h.setLink.takeCompletion _ _ _ _).proceed
  · exact (h.setLink.discardCompletion _ _).proceed

theorem attemptFails (l : LinkId) : s.KeepsValues (t.attemptFails l) := by
  unfold State.attemptFails
  split
  · exact h
  split
  · exact h.completeCall _ _ _ _
  · exact h.setLink

theorem takeSnapshot {n : NodeSlot} : s.KeepsValues (t.takeSnapshot n) :=
  h.updateWhere fun _ _ => ⟨id, id, .inr ⟨rfl, rfl⟩⟩

theorem buildExchange {l : LinkId} {a : NodeAddr} : s.KeepsValues (t.buildExchange l a) := by
  unfold State.buildExchange
  dsimp only
  split
  · exact h.setLink
  · exact h.takeSnapshot.setLink

theorem buildService {l : LinkId} {c : ServiceClass} {a : NodeAddr} : s.KeepsValues (t.buildService l c a) := by
  cases c with
  | owedPark => exact h.setLink.setLink
  | resync => exact h.setLink.setLink
  | describe => exact h.setLink.setLink
  | lost => exact h.setLink.setLink
  | vacant => exact h.setLink.setLink

theorem buildNext (l : LinkId) : s.KeepsValues (t.buildNext l) := by
  unfold State.buildNext
  split
  · exact h.setLink.buildExchange
  split
  · split
    · exact h.setLink.buildService
    · exact h.proceed
  · exact h.proceed

theorem callBuild (l : LinkId) : s.KeepsValues (t.callBuild l) := by
  unfold State.callBuild
  dsimp only
  split
  · exact h
  split
  · exact h
  · split
    · exact h
    · exact h.buildNext l
  · exact h.setLink

theorem endStop (l : LinkId) : s.KeepsValues (t.endStop l) :=
  ((h.loseNodes _ _).updateWhere fun _ r => .freed r).mapNodes.setLink

theorem clockTick : s.KeepsValues t.clockTick := by
  unfold State.clockTick
  exact (h.releaseMembers _).mapLeases.setLink.setLink

/-! ## The requests -/

theorem withdrawNode (n : NodeSlot) : s.KeepsValues (t.withdrawNode n) := by
  unfold State.withdrawNode
  split
  · exact h.retireNode n
  split
  · exact h.releaseReservations n
  · exact h

theorem updatePoint {i : DirSlot} {f : PointRecord → PointRecord} (hf : ∀ r : PointRecord, r.KeepsValues (f r)) :
    s.KeepsValues (t.updatePoint i f) := h.updateWhere fun _ r => hf r

theorem eachEntry {α : Type} {act : State → α → State × Result}
    (hact : ∀ {t : State} a, s.KeepsValues t → s.KeepsValues (act t a).1) (as : List α) :
    s.KeepsValues (eachEntry act t as).1 := by
  induction as generalizing t with
  | nil => exact h
  | cons a rest ih => exact ih (hact a h)

end

section
variable {s : State}

/-- The entries of WATCH, UNWATCH and ACK_CHANGES, where each entry keeps the values. -/
theorem entriesRequest {α : Type} {act : PortId → State → α → State × Result}
    (hact : ∀ p {t : State} a, s.KeepsValues t → s.KeepsValues (act p t a).1) (p : PortId) (as : List α) :
    s.KeepsValues (entriesRequest act p as s).1 := by
  unfold Machine.entriesRequest
  split
  · exact refl s
  · exact (refl s).eachEntry (hact p) as

theorem watchEntry (p : PortId) {t : State} (hd : Nat) (h : s.KeepsValues t) : s.KeepsValues (watchEntry p t hd).1 := by
  unfold Machine.watchEntry
  split
  · exact h
  · exact h.updatePoint fun _ => ⟨id, id, .inr ⟨rfl, rfl⟩⟩

theorem unwatchEntry (p : PortId) {t : State} (hd : Nat) (h : s.KeepsValues t) : s.KeepsValues (unwatchEntry p t hd).1 := by
  unfold Machine.unwatchEntry
  split
  · exact h
  · exact h.updatePoint fun r => .dropWatcher r p

theorem ackEntry (p : PortId) {t : State} (a : Nat × BitVec 16) (h : s.KeepsValues t) : s.KeepsValues (ackEntry p t a).1 := by
  unfold Machine.ackEntry
  split
  · exact h
  split
  · exact h
  split
  · exact h.updatePoint fun r => .acknowledgedBy r p
  · exact h

theorem writePoints (p : PortId) (a : (Nat × Nat) × List (Nat × Word32)) : s.KeepsValues (writePoints p a s).1 := by
  unfold Machine.writePoints
  dsimp only
  repeat' split
  case h_2.isFalse.isFalse.isFalse.isFalse.isFalse => exact (refl s).eventWhere fun _ r => .setDemand r _
  all_goals exact refl s

theorem setSafePoint (p : PortId) (a : (Nat × Nat) × Nat × Word32) : s.KeepsValues (setSafePoint p a s).1 := by
  unfold Machine.setSafePoint
  repeat' split
  case h_2.isFalse.isFalse.isFalse => exact (refl s).eventWhere fun _ _ => ⟨id, id, .inr ⟨rfl, rfl⟩⟩
  all_goals exact refl s

theorem unsubstitutePoint (p : PortId) (hd : Nat) : s.KeepsValues (unsubstitutePoint p hd s).1 := by
  unfold Machine.unsubstitutePoint
  repeat' split
  case h_2.isFalse.isFalse => exact (refl s).eventWhere fun _ r => .endSubstitution r
  all_goals exact refl s

theorem claimLease (p : PortId) (a : (Nat × Nat) × List Nat) : s.KeepsValues (claimLease p a s).1 := by
  have hmember (k : LeaseIndex) (r : PointRecord) : r.KeepsValues { r with lease := some k } := ⟨id, id, .inr ⟨rfl, rfl⟩⟩
  unfold Machine.claimLease
  repeat' split
  case h_2.isFalse => exact ((refl s).eventWhere fun _ r => hmember _ r).setLease
  all_goals exact refl s

theorem openLease (p : PortId) (term : Nat) : s.KeepsValues (openLease p term s).1 := by
  unfold Machine.openLease
  split
  · exact refl s
  split
  · exact refl s
  · exact (refl s).setLease

theorem releaseLease (p : PortId) (a : (Nat × Nat) × List Nat) : s.KeepsValues (releaseLease p a s).1 := by
  unfold Machine.releaseLease
  split
  · exact refl s
  split
  · exact refl s
  · exact ((refl s).releaseMembers _).setLease

theorem renewLease (p : PortId) (hd : Nat × Nat) : s.KeepsValues (renewLease p hd s).1 := by
  unfold Machine.renewLease
  dsimp only
  split
  · exact refl s
  split
  · exact refl s
  · exact (refl s).setLease

theorem closeLeaseRule (p : PortId) (hd : Nat × Nat) : s.KeepsValues (closeLeaseRule p hd s).1 := by
  unfold Machine.closeLeaseRule
  split
  · exact refl s
  · exact ((refl s).releaseMembers _).setLease

theorem revokeLease (p : PortId) (hd : Nat × Nat) : s.KeepsValues (revokeLease p hd s).1 := by
  unfold Machine.revokeLease
  split
  · exact refl s
  split
  · exact refl s
  · exact ((refl s).releaseMembers _).setLease

theorem setDeadband (p : PortId) (a : Nat × Nat) : s.KeepsValues (setDeadband p a s).1 := by
  unfold Machine.setDeadband
  split
  · exact refl s
  split
  · exact refl s
  split
  · exact refl s
  · exact (refl s).updatePoint fun _ => ⟨id, id, .inr ⟨rfl, rfl⟩⟩

theorem setAttention (p : PortId) (a : Nat × Nat) : s.KeepsValues (setAttention p a s).1 := by
  unfold Machine.setAttention
  split
  · exact refl s
  · exact (refl s).setPort id

theorem nameNode (p : PortId) (a : Nat × Text) : s.KeepsValues (nameNode p a s).1 := by
  unfold Machine.nameNode
  dsimp only
  repeat' split
  case isTrue.isFalse.isFalse.isFalse.isFalse => exact (refl s).setNameMap.setNode
  all_goals exact refl s

theorem onNodeSlot {act : NodeSlot → State → State × Response} (hact : ∀ n, s.KeepsValues (act n s).1) (p : PortId) (n : Nat) :
    s.KeepsValues (onNodeSlot act p n s).1 := by
  unfold Machine.onNodeSlot
  split
  · exact hact _
  · exact refl s

theorem rescanNode (n : NodeSlot) : s.KeepsValues (rescanNode n s).1 := by
  unfold Machine.rescanNode
  split
  · exact (refl s).setNode
  · exact refl s

theorem includeNode (n : NodeSlot) : s.KeepsValues (includeNode n s).1 := by
  unfold Machine.includeNode
  split
  · exact (refl s).setNode
  · exact refl s

theorem excludeNode (n : NodeSlot) : s.KeepsValues (excludeNode n s).1 := by
  unfold Machine.excludeNode
  dsimp only
  split
  · exact refl s
  · exact ((refl s).withdrawNode n).setNode

theorem forgetNode (n : NodeSlot) : s.KeepsValues (forgetNode n s).1 := by
  unfold Machine.forgetNode
  dsimp only
  split
  · exact refl s
  · exact ((refl s).withdrawNode n).setNode

theorem onLinkNumber {act : LinkId → State → State × Response} (hact : ∀ l, s.KeepsValues (act l s).1) (p : PortId) (n : Nat) :
    s.KeepsValues (onLinkNumber act p n s).1 := by
  unfold Machine.onLinkNumber
  split
  · exact hact _
  · exact refl s

theorem startLinkRule (l : LinkId) : s.KeepsValues (startLinkRule l s).1 := by
  unfold Machine.startLinkRule
  split
  · exact refl s
  · exact refl s
  · exact (refl s).setLink.mapNodes.startCycle

theorem stopLinkRule (l : LinkId) : s.KeepsValues (stopLinkRule l s).1 := by
  unfold Machine.stopLinkRule
  split
  · exact refl s
  · exact refl s
  · exact (refl s).setLink

theorem setLinkRule (p : PortId) (a : Nat × Byte × Nat × Nat × Nat × Nat × Nat × BitVec 16) :
    s.KeepsValues (setLinkRule p a s).1 := by
  unfold Machine.setLinkRule
  split
  · exact refl s
  split
  · exact refl s
  split
  · exact refl s
  split
  · exact refl s
  · exact (refl s).setLink.loseNodes _ _

theorem attemptRetry {l : LinkId} {t : State} (hexec : execAttemptRetry l s = .next t) : s.KeepsValues t := by
  cases hexec
  split
  · exact refl s
  split
  · exact refl s
  split
  · exact refl s
  · exact (refl s).setLink.setNode

theorem answerReceived {l : LinkId} {frame : List Byte} {t : State} (hexec : execAnswerReceived l frame s = .next t) :
    s.KeepsValues t := by
  cases hexec
  split
  · exact refl s
  split
  · exact (refl s).completeCall _ _ _ _
  · exact (refl s).attemptFails l

end

end State.KeepsValues

/-! ## Substitutes and sessions (R102, R105, R156, R157) -/

/-- A substitute is set by a port with an open session and the supervisor role (R102, R153). -/
theorem ValueLaws.substitutePoint {s : State} (h : ValueLaws s) {p : PortId} (hsession : (s.port p).sessionOpen = true)
    (hrole : s.isSupervisor p = true) (a : Nat × Word32) : ValueLaws (substitutePoint p a s).1 := by
  unfold Machine.substitutePoint
  split
  · exact h
  split
  · exact h
  split
  · exact h
  obtain ⟨hvalues, hpending⟩ := h
  obtain ⟨hrecords, hsubst⟩ := (valuesLaw_iff s).mp hvalues
  refine ⟨(valuesLaw_iff _).mpr ⟨fun j => ?_, fun j q hdir hport => ?_⟩,
    (pendingLaw_iff _).mpr fun j => ?_⟩
  · rw [State.event_point, PointRecord.valuesLawful_report]
    split
    · exact PointRecord.valuesLawful_substituteBy (hrecords j) p _
    · exact hrecords j
  · rw [State.event_port_sessionOpen]
    simp only [State.event_point, report_direction, report_substPort] at hdir hport
    split at hport
    · cases hport; exact ⟨hsession, hrole⟩
    · rename_i hj
      exact hsubst j q (by simpa [hj] using hdir) hport
  · rw [State.event_point, PointRecord.pendingLawful_report]
    split
    · exact hpending j
    · exact hpending j

/-- After a close of its session a port substitutes no point (R105). -/
theorem State.closeSession_substPort (s : State) (p : PortId) (i : DirSlot) :
    ((s.closeSession p).point i).substPort ≠ some p := by
  have hend (r : PointRecord) : (if r.substPort = some p then r.endSubstitution else r).substPort ≠ some p := by
    split
    · exact (Option.some_ne_none p).symm
    · assumption
  have hdrop (r : PointRecord) (h : r.substPort ≠ some p) : (r.dropWatcher p).substPort ≠ some p := by
    unfold PointRecord.dropWatcher
    dsimp only
    split
    · exact (Option.some_ne_none p).symm
    · exact h
  rw [State.closeSession_point, State.event_point]
  exact hdrop _ (by rw [report_substPort]; exact hend _)

/-- The close of a session ends the substitutions of its port, and leaves the sessions and roles of the others (R105, R157). -/
theorem ValueLaws.closeSession {s : State} (h : ValueLaws s) (p : PortId) : ValueLaws (s.closeSession p) := by
  obtain ⟨hvalues, hpending⟩ := h
  obtain ⟨hrecords, hsubst⟩ := (valuesLaw_iff s).mp hvalues
  have hkeeps (i : DirSlot) : (s.point i).KeepsValues ((s.closeSession p).point i) := by
    rw [State.closeSession_point, State.event_point]
    exact (PointRecord.KeepsValues.closeFor _ p _).report.trans (.dropWatcher _ p)
  refine ⟨(valuesLaw_iff _).mpr ⟨fun i => (hkeeps i).values (hrecords i), fun i q hdir hport => ?_⟩,
    (pendingLaw_iff _).mpr fun i => (hkeeps i).pending (hpending i)⟩
  have hq : q ≠ p := by rintro rfl; exact s.closeSession_substPort q i hport
  obtain hnone | ⟨hport', hdir'⟩ := (hkeeps i).subst
  · rw [hnone] at hport; cases hport
  · obtain ⟨hsession, hrole⟩ := hsubst i q (hdir' ▸ hdir) (hport' ▸ hport)
    rw [State.closeSession_port_other s p hq]
    exact ⟨hsession, (s.closeSession_isSupervisor p q).trans hrole⟩

theorem ValueLaws.openSession {s : State} (h : ValueLaws s) (p : PortId) (u : Unit) : ValueLaws (openSession p u s).1 := by
  unfold Machine.openSession
  dsimp only
  split
  · exact ((State.KeepsValues.refl _).setPort fun _ => rfl).laws (h.closeSession p)
  · exact ((State.KeepsValues.refl _).setPort fun _ => rfl).laws h

/-! ## Every command -/

/-- Records at their reset values are lawful, whatever the sessions and roles (R26, R85). -/
theorem ValueLaws.of_reset {t : State} (hpoints : t.points = State.reset.points) : ValueLaws t := by
  have hpoint := State.point_of_reset hpoints
  refine ⟨(valuesLaw_iff t).mpr ⟨fun i => ?_, fun i p _ hport => ?_⟩, fun i hout => ?_⟩
  · rw [hpoint]; exact fun _ => ⟨.head _, rfl, rfl⟩
  · rw [hpoint] at hport; cases hport
  · rw [hpoint] at hout; cases hout

theorem ValueLaws.grantOf {α : Type} {s : State} (h : ValueLaws s) {mine : Byte → Bool} {pol : Policy}
    {form : List Byte → Option α} {act : PortId → α → State → State × Response}
    (hact : ∀ p a, (pol.session = true → (s.port p).sessionOpen = true) →
      (pol.supervisor = true → s.isSupervisor p = true) → ValueLaws (act p a s).1) :
    ValueLaws (s.grantOf mine pol form act) :=
  State.grantOf_keeps ValueLaws h (fun _ _ _ hu => (State.KeepsValues.refl _).finishGrant.laws hu)
    fun p a _ _ hsession hrole => hact p a hsession hrole

/-- The grant of a request whose rule keeps the values and the sessions. -/
theorem ValueLaws.grant {α : Type} {s : State} (h : ValueLaws s) {code : Byte} {pol : Policy} {form : List Byte → Option α}
    {act : PortId → α → State → State × Response} (hact : ∀ p a, s.KeepsValues (act p a s).1) :
    ValueLaws (s.grant code pol form act) := h.grantOf fun p a _ _ => (hact p a).laws h

theorem ValueLaws.grant_reading {α : Type} {s : State} (h : ValueLaws s) {code : Byte} {pol : Policy}
    {form : List Byte → Option α} {f : PortId → α → State → Response} :
    ValueLaws (s.grant code pol form (reading f)) := h.grant fun _ _ => .refl s

theorem PortRecord.accept_dispose_sessionOpen (r : PortRecord) (out : OutFrame) (bytes : List Byte) :
    ((r.dispose out bytes).accept bytes).sessionOpen = r.sessionOpen := by
  have hdispose : (r.dispose out bytes).sessionOpen = r.sessionOpen := by
    unfold PortRecord.dispose
    split <;> rfl
  rw [← hdispose]
  unfold PortRecord.accept
  split
  · rfl
  · rfl
  · split
    · rfl
    · split <;> rfl

/-- The close of a window keeps the values of the records, or resets the part (R141, R145, R146, R164). -/
theorem ValueLaws.windowClose {s t : State} (h : ValueLaws s) {p : PortId} {edge : CloseEdge}
    (hexec : execWindowClose p edge s = .next t) : ValueLaws t := by
  unfold execWindowClose at hexec
  cases hexec
  split
  · exact h
  · exact ((State.KeepsValues.refl s).setPort (by exact id)).laws h
  · dsimp only
    split
    · exact .of_reset rfl
    · exact ((State.KeepsValues.refl s).setPort fun hopen => by
        rw [← hopen]; exact PortRecord.accept_dispose_sessionOpen _ _ _).laws h

/-- Every command keeps the laws of values and pending. The end of a reset decides the roles while every record is at its reset values, and the
end of the check leaves them there. -/
theorem exec_valueLaws {c : Instr} {s t : State} (hquiet : QuietLaw s) (h : ValueLaws s) (hexec : exec c s = .next t) :
    ValueLaws t := by
  have keeps {t : State} (hkeeps : s.KeepsValues t) : ValueLaws t := hkeeps.laws h
  have same : s.KeepsValues s := .refl s
  cases c with
  | reset => cases hexec; exact .of_reset rfl
  | resetEnd a b =>
    cases hexec
    split
    · rename_i hheld
      obtain ⟨hpoints, -⟩ := hquiet (by simp [State.serving, hheld])
      exact .of_reset hpoints
    · exact h
  | checkEnd passed =>
    cases hexec
    split
    · exact .of_reset rfl
    · exact h
  | windowOpen p =>
    cases hexec
    split
    · exact h
    · exact keeps (same.setPort id)
  | windowClose p edge => exact h.windowClose hexec
  | substitute => cases hexec; exact h.grantOf fun p a hsession hrole => h.substitutePoint (hsession rfl) (hrole rfl) a
  | openSession => cases hexec; exact h.grantOf fun p u _ _ => h.openSession p u
  | closeSession => cases hexec; exact h.grantOf fun p _ _ _ => h.closeSession p
  | unknownRequest => cases hexec; exact h.grantOf fun _ _ _ _ => h
  | pollRequest | lookup | listPoints | describePoint | pointSummary | listNodes | read | leaseInfo | deviceInfo | resetDevice =>
    cases hexec; exact h.grant_reading
  | nodeInfo => cases hexec; exact h.grant (.onNodeSlot fun _ => same)
  | nameNode => cases hexec; exact h.grant .nameNode
  | rescanNode => cases hexec; exact h.grant (.onNodeSlot .rescanNode)
  | excludeNode => cases hexec; exact h.grant (.onNodeSlot .excludeNode)
  | includeNode => cases hexec; exact h.grant (.onNodeSlot .includeNode)
  | forgetNode => cases hexec; exact h.grant (.onNodeSlot .forgetNode)
  | startLink => cases hexec; exact h.grant (.onLinkNumber .startLinkRule)
  | stopLink => cases hexec; exact h.grant (.onLinkNumber .stopLinkRule)
  | setLink => cases hexec; exact h.grant .setLinkRule
  | linkStatus => cases hexec; exact h.grant (.onLinkNumber fun _ => same)
  | write => cases hexec; exact h.grant .writePoints
  | setSafe => cases hexec; exact h.grant .setSafePoint
  | unsubstitute => cases hexec; exact h.grant .unsubstitutePoint
  | openLease => cases hexec; exact h.grant .openLease
  | claim => cases hexec; exact h.grant .claimLease
  | release => cases hexec; exact h.grant .releaseLease
  | renew => cases hexec; exact h.grant .renewLease
  | closeLease => cases hexec; exact h.grant .closeLeaseRule
  | revoke => cases hexec; exact h.grant .revokeLease
  | watch => cases hexec; exact h.grant (.entriesRequest .watchEntry)
  | unwatch => cases hexec; exact h.grant (.entriesRequest .unwatchEntry)
  | setDeadband => cases hexec; exact h.grant .setDeadband
  | nextChanges => cases hexec; exact h.grant fun _ _ => same.setPort id
  | ackChanges => cases hexec; exact h.grant (.entriesRequest .ackEntry)
  | setAttention => cases hexec; exact h.grant .setAttention
  | leaseClockTick => cases hexec; exact keeps same.clockTick
  | leaseExpiry index =>
    cases hexec
    split
    · split
      · exact keeps same.clockTick
      · exact h
    · exact h
  | cycleTimerExpiry l =>
    cases hexec
    split
    · exact keeps (same.cycleExpiry l)
    · exact h
  | callBuild l => cases hexec; exact keeps (same.callBuild l)
  | attemptRetry l => exact keeps (.attemptRetry hexec)
  | answerReceived l frame => exact keeps (.answerReceived hexec)
  | replyTimeout l | answerTruncated l | framingFault l => cases hexec; exact keeps (same.attemptFails l)
  | answerBadLength l n =>
    cases hexec
    split
    · exact keeps (same.attemptFails l)
    · exact h
  | broadcastParkCompletion l =>
    cases hexec
    split
    · exact keeps (same.endStop l)
    · exact h

/-- Settles O57: every operation but SUBSTITUTE, the session requests and a reset keeps each record's values, its substitute and the open
sessions; those four are followed one by one. -/
theorem stepKeepsValueLaws : Obligations.StepKeepsValueLaws := by
  intro s t hquiet hvalues hpending h
  obtain rfl | ⟨c, rest, hexec⟩ := step_next h
  · exact ⟨hvalues, hpending⟩
  · exact exec_valueLaws (hquiet.setPending rest) ((State.KeepsValues.refl s).setPending.laws ⟨hvalues, hpending⟩) hexec

end Sys2Proof.Machine
end

section
/-! The value requests (ch. 4.5 to 4.8): the layouts they are read by, READ, SET_SAFE, SUBSTITUTE and UNSUBSTITUTE (R88, R97, R101, R102,
R104). -/

namespace Sys2Proof.Machine

/-! ## What a grant leaves when its rule has answered -/

section
variable {α : Type} {s t : State} {p : PortId} {code : Byte} {params : List Byte} {form : List Byte → Option α} {a : α}
  {act : PortId → α → State → State × Response} {resp : Response}

theorem State.grant_eq_of_asks (h : s.asks p code params) (hform : form params = some a) (hact : act p a s = (t, resp)) :
    s.grant code anyPort form act = t.finishGrant p resp := by
  rw [State.grant_of_asks h hform, hact]

theorem State.grant_eq_of_supervisorAsks (h : s.supervisorAsks p code params) (hform : form params = some a)
    (hact : act p a s = (t, resp)) : s.grant code supervisorOnly form act = t.finishGrant p resp := by
  rw [State.grant_of_supervisorAsks h hform, hact]

end

/-! ## Counted layouts (ch. 8.4) -/

theorem countIn_iff (limit n : Nat) : countIn limit n = true ↔ 1 ≤ n ∧ n ≤ limit := by
  simp [countIn]

theorem countIn_eq_false_iff (limit n : Nat) : countIn limit n = false ↔ n = 0 ∨ limit < n := by
  rw [Bool.eq_false_iff, Ne, countIn_iff]
  omega

theorem u16_of_le16 {n : Nat} (h : n < 65536) : u16 (BitVec.ofNat 8 n) (BitVec.ofNat 8 (n / 256)) = n := by
  simp only [u16, BitVec.toNat_ofNat]
  omega

/-- A count byte and that many entries of one size are read as the entries' bytes (R168). -/
theorem formCount_flatMap {α : Type} {size : Nat} {as : List α} (hlen : as.length < 256) {bytes : α → List Byte}
    (hsize : ∀ a, (bytes a).length = size) :
    formCount size (byte as.length :: as.flatMap bytes) = some (as.flatMap bytes) := by
  have hbytes : (as.flatMap bytes).length = as.length * size := by simp [List.length_flatMap, hsize]
  unfold formCount
  dsimp only
  rw [byte_toNat hlen, if_pos hbytes]

theorem handlesIn_flatMap {hs : List Nat} (h : ∀ hd ∈ hs, hd < 65536) : handlesIn (hs.flatMap le16) = hs := by
  induction hs with
  | nil => rfl
  | cons hd rest ih =>
    obtain ⟨hhd, hrest⟩ := List.forall_mem_cons.mp h
    exact congrArg₂ List.cons (u16_of_le16 hhd) (ih hrest)

theorem formHandles_countedHandles {hs : List Nat} (h : ∀ hd ∈ hs, hd < 65536) (hlen : hs.length < 256) :
    formHandles (countedHandles hs) = some hs := by
  unfold formHandles countedHandles
  rw [formCount_flatMap (bytes := le16) hlen fun _ => rfl, Option.map_some, handlesIn_flatMap h]

theorem valuesIn_flatMap {vs : List (Nat × Word32)} (h : ∀ e ∈ vs, e.1 < 65536) :
    valuesIn (vs.flatMap fun e => le16 e.1 ++ le32 e.2) = vs := by
  induction vs with
  | nil => rfl
  | cons e rest ih =>
    obtain ⟨he, hrest⟩ := List.forall_mem_cons.mp h
    exact congrArg₂ List.cons (Prod.ext (u16_of_le16 he) (w32_of_le32 rfl)) (ih hrest)

theorem formWrite_countedValues {ix sn : Byte} {vs : List (Nat × Word32)} (h : ∀ e ∈ vs, e.1 < 65536)
    (hlen : vs.length < 256) : formWrite (ix :: sn :: countedValues vs) = some ((ix.toNat, sn.toNat), vs) := by
  unfold formWrite countedValues
  dsimp only
  rw [formCount_flatMap (bytes := fun e => le16 e.1 ++ le32 e.2) hlen fun _ => rfl, Option.map_some, valuesIn_flatMap h]

/-! ## READ (R97) -/

theorem readFields_eq (r : PointRecord) :
    readFields r =
      if r.direction = .inp then
        [0x00] ++ le32 r.value ++ [r.quality.code] ++ le16 r.revision.toNat ++ le32 r.fieldValue ++ [0]
      else
        [0x00] ++ le32 r.demand ++ [r.quality.code] ++ le16 r.revision.toNat ++ le32 (r.applied.getD 0) ++
          [if r.applied = none then 2 else if r.pending then 1 else 0] := by
  unfold readFields readValue readSecond pendingIndicator
  cases r.direction with
  | inp => rfl
  | out => rfl

/-- Settles O26: the count is in its limits or not, and each entry is that of its handle's outcome. -/
theorem readReports : Obligations.ReadReports := by
  intro s p hs hbound hlen hasks entry
  have hexec : exec .read s = .next (s.finishGrant p (readAnswer p hs s)) :=
    congrArg Host.Outcome.next (State.grant_of_asks hasks (formHandles_countedHandles hbound hlen))
  have hentry : readEntry s = entry := funext fun hd => by
    unfold readEntry entry
    cases s.checkHandle false hd with
    | refused e => rfl
    | accepted i => exact readFields_eq _
  rw [hexec, ← hentry]
  unfold readAnswer
  refine ⟨fun hcount => ?_, fun hmin hmax => ?_⟩
  · rw [if_neg (Bool.eq_false_iff.mp ((countIn_eq_false_iff _ _).mpr hcount))]
    rfl
  · rw [if_pos ((countIn_iff _ _).mpr ⟨hmin, hmax⟩)]
    rfl

/-! ## Lease handles (R108) -/

theorem State.leaseNamed_eq_some {s : State} {ix sn : Byte} {k : LeaseIndex} :
    s.leaseNamed (ix.toNat, sn.toNat) = some k ↔ s.namesLease ix sn k := by
  refine ⟨State.leaseNamed_spec, fun ⟨hindex, hstate, hserial⟩ => ?_⟩
  have hlt : ix.toNat < 64 := hindex ▸ k.isLt
  obtain rfl : k = ⟨ix.toNat, hlt⟩ := Fin.ext hindex.symm
  unfold State.leaseNamed
  rw [dif_pos hlt]
  exact if_pos ⟨hstate, hserial⟩

theorem State.leaseHeldBy_eq_some {s : State} {p : PortId} {ix sn : Byte} {k : LeaseIndex} :
    s.leaseHeldBy p (ix.toNat, sn.toNat) = some k ↔ s.namesLease ix sn k ∧ (s.leaseAt k).holder = some p := by
  refine ⟨fun h => ?_, fun ⟨hnames, hholder⟩ => ?_⟩
  · obtain ⟨hindex, hstate, hserial, hholder⟩ := State.leaseHeldBy_spec h
    exact ⟨⟨hindex, hstate, hserial⟩, hholder⟩
  · unfold State.leaseHeldBy
    rw [State.leaseNamed_eq_some.mpr hnames]
    exact if_pos hholder

theorem State.leaseHeldBy_eq_none {s : State} {p : PortId} {ix sn : Byte}
    (h : ∀ k, ¬(s.namesLease ix sn k ∧ (s.leaseAt k).holder = some p)) : s.leaseHeldBy p (ix.toNat, sn.toNat) = none :=
  Option.eq_none_iff_forall_ne_some.mpr fun k hk => h k (State.leaseHeldBy_eq_some.mp hk)

/-! ## SET_SAFE (R101) -/

/-- A new safe value is no reportable change (R127). -/
theorem report_setSafe (r : PointRecord) (v : Word32) : report r (r.setSafe v) = r.setSafe v := by
  have hnone : reportable r (r.setSafe v) = false := by
    unfold reportable PointRecord.setSafe
    cases r.direction <;> simp
  unfold report
  rw [hnone]
  rfl

theorem State.setSafe_eq (s : State) (i : DirSlot) (v : Word32) :
    (s.event fun j r => if j = i then r.setSafe v else r) =
      { s with points := s.points.set i { s.point i with safeValue := v } } := by
  have hreport (j : DirSlot) (r : PointRecord) :
      report r (if j = i then r.setSafe v else r) = if j = i then r.setSafe v else r := by
    split
    · exact report_setSafe r v
    · exact report_self r
  have hmark (j : DirSlot) : (if j = i then (s.point j).setSafe v else s.point j).mark = (s.point j).mark := by split <;> rfl
  have htable : tabMap (fun j r => if j = i then r.setSafe v else r) s.points =
      s.points.set i { s.point i with safeValue := v } := table_ext fun j => by
    rw [tabMap_get]
    split
    · rename_i hj; subst hj; simp [PointRecord.setSafe, State.point]
    · rename_i hj
      have hne : (i : Nat) ≠ j := fun h => hj (Fin.ext h.symm)
      simp [hne]
  unfold State.event
  simp only [hreport]
  rw [State.updatePoints_of_marks (g := fun j r => if j = i then r.setSafe v else r) hmark, htable]

/-- SET_SAFE of a HELD lease of the port and an accepted handle makes the three checks on the point and sets its safe value (R101). -/
theorem setSafePoint_of_accepted {s : State} {p : PortId} {h : Nat × Nat} {k : LeaseIndex} {hd : Nat} {i : DirSlot} (v : Word32)
    (hlease : s.leaseHeldBy p h = some k) (hheld : (s.leaseAt k).state ≠ .lapsed) (hi : s.checkHandle false hd = .accepted i) :
    setSafePoint p (h, hd, v) s =
      if (s.point i).direction = .inp then (s, answer .wrongDirection)
      else if (s.point i).lease ≠ some k then (s, answer .notHeld)
      else if (s.point i).inRange v = false then (s, answer .range)
      else ({ s with points := s.points.set i { s.point i with safeValue := v } }, answer .ok) := by
  simp only [setSafePoint, hlease, hheld, hi, if_false, State.setSafe_eq]

/-- Settles O28: the six checks of R101 one after another, of which each answers the request, and then the new safe value. -/
theorem setSafeChecksAndSets : Obligations.SetSafeChecksAndSets := by
  intro s p ix sn a b v0 v1 v2 v3 hasks
  dsimp only
  have hends {t : State} {res : Result}
      (h : setSafePoint p ((ix.toNat, sn.toNat), u16 a b, w32 v0 v1 v2 v3) s = (t, answer res)) :
      exec .setSafe s = .next (t.finishGrant p ⟨res, []⟩) :=
    congrArg Host.Outcome.next (State.grant_eq_of_asks hasks rfl h)
  refine ⟨fun hnone => hends ?_, fun k hnames hholder => ?_⟩
  · simp only [setSafePoint, State.leaseHeldBy_eq_none hnone]
  have hlease := State.leaseHeldBy_eq_some.mpr ⟨hnames, hholder⟩
  refine ⟨fun hlapsed => hends ?_, fun hheld => ⟨fun e he => hends ?_, fun i hi => ?_⟩⟩
  · simp only [setSafePoint, hlease, hlapsed, if_true]
  · simp only [setSafePoint, hlease, hheld, he, if_false]
  have hrule := setSafePoint_of_accepted (w32 v0 v1 v2 v3) hlease hheld hi
  refine ⟨fun hinp => hends ?_, fun hout hmine => hends ?_, fun hout hmine hrange => hends ?_,
    fun hout hmine hrange => hends ?_⟩
  · rw [hrule, if_pos hinp]
  · rw [hrule, if_neg (by simp [hout]), if_pos hmine]
  · rw [hrule, if_neg (by simp [hout]), if_neg (not_not_intro hmine), if_pos hrange]
  · rw [hrule, if_neg (by simp [hout]), if_neg (not_not_intro hmine), if_neg (by simp [hrange])]

/-! ## SUBSTITUTE and UNSUBSTITUTE (R88, R102, R104) -/

/-- Settles O29: the checks of R102 and of R104 one after another, and the event that sets or ends the substitute. -/
theorem substituteAndUnsubstitute : Obligations.SubstituteAndUnsubstitute := by
  intro s p a b
  refine ⟨fun v0 v1 v2 v3 hasks => ?_, fun hasks => ?_⟩
  · have hends {t : State} {res : Result} (h : substitutePoint p (u16 a b, w32 v0 v1 v2 v3) s = (t, answer res)) :
        exec .substitute s = .next (t.finishGrant p ⟨res, []⟩) :=
      congrArg Host.Outcome.next (State.grant_eq_of_supervisorAsks hasks rfl h)
    refine ⟨fun e he => hends ?_, fun i hi => ?_⟩
    · simp only [substitutePoint, he]
    intro r legal
    have hlegal : legal ↔ r.inRange (w32 v0 v1 v2 v3) = true := by
      unfold legal PointRecord.inRange valueInRange
      cases r.kind <;> simp
    rw [hlegal]
    have hrule : substitutePoint p (u16 a b, w32 v0 v1 v2 v3) s =
        if r.direction = .out then (s, answer .wrongDirection)
        else if r.inRange (w32 v0 v1 v2 v3) then (s.event fun j x => if j = i then x.substituteBy p (w32 v0 v1 v2 v3) else x, answer .ok)
        else (s, answer .range) := by
      simp only [substitutePoint, hi, ← Bool.not_eq_true, ite_not]
      rfl
    refine ⟨fun hout => hends ?_, fun hinp hrange => hends ?_, fun hinp hrange => hends ?_⟩
    · rw [hrule, if_pos hout]
    · rw [hrule, if_neg (by simp [hinp]), if_neg hrange]
    · rw [hrule, if_neg (by simp [hinp]), if_pos hrange]
      rfl
  · have hends {t : State} {res : Result} (h : unsubstitutePoint p (u16 a b) s = (t, answer res)) :
        exec .unsubstitute s = .next (t.finishGrant p ⟨res, []⟩) :=
      congrArg Host.Outcome.next (State.grant_eq_of_supervisorAsks hasks rfl h)
    refine ⟨fun e he => hends ?_, fun i hi => ⟨fun hout => hends ?_, fun hinp hnone => hends ?_, fun hinp hsome => hends ?_⟩⟩
    · simp only [unsubstitutePoint, he]
    · simp only [unsubstitutePoint, hi, hout, if_true]
    · simp only [unsubstitutePoint, hi, hinp, hnone, reduceCtorEq, if_true, if_false]
    · simp only [unsubstitutePoint, hi, hinp, hsome, reduceCtorEq, if_false]
      rfl

end Sys2Proof.Machine
end

section
/-! WRITE (R98, R99): its eight checks, each over all the pairs, and the demands it sets. -/

namespace Sys2Proof.Machine

/-! ## All-or-nothing handle checks (R5, R98, R112) -/

/-- The handles are accepted in their order. -/
theorem State.checkHandles_of_accepted {s : State} {hs : List Nat} {pts : List DirSlot}
    (h : List.Forall₂ (fun hd i => s.checkHandle false hd = .accepted i) hs pts) : s.checkHandles hs = .accepted pts := by
  induction h with
  | nil => rfl
  | cons hhead _ ih =>
    unfold State.checkHandles
    simp only [hhead, ih]

/-- The first refused handle answers the request. -/
theorem State.checkHandles_of_refused {s : State} {good rest : List Nat} {bad : Nat} {e : Result}
    (hgood : ∀ hd ∈ good, ∃ i, s.checkHandle false hd = .accepted i) (hbad : s.checkHandle false bad = .refused e) :
    s.checkHandles (good ++ bad :: rest) = .refused e := by
  induction good with
  | nil =>
    unfold State.checkHandles
    simp only [List.nil_append, hbad]
  | cons hd tail ih =>
    obtain ⟨⟨i, hi⟩, htail⟩ := List.forall_mem_cons.mp hgood
    unfold State.checkHandles
    simp only [List.cons_append, hi, ih htail]

/-! ## The checks over all the points (R98) -/

section
variable (s : State) (slots : List DirSlot)

theorem State.any_inp_iff :
    (slots.any fun i => (s.point i).direction == .inp) = true ↔ ¬∀ i ∈ slots, (s.point i).direction = .out := by
  simp only [List.any_eq_true, beq_iff_eq, not_forall, exists_prop]
  refine exists_congr fun i => and_congr_right fun _ => ?_
  cases (s.point i).direction <;> simp

theorem State.any_not_member_iff (k : LeaseIndex) :
    (slots.any fun i => (s.point i).lease != some k) = true ↔ ¬∀ i ∈ slots, (s.point i).lease = some k := by
  simp

theorem State.any_out_of_range_iff (pairs : List (DirSlot × Word32)) :
    (pairs.any fun e => !(s.point e.1).inRange e.2) = true ↔ ¬∀ e ∈ pairs, (s.point e.1).inRange e.2 = true := by
  simp

theorem State.oneNode_iff :
    s.oneNode slots = true ↔ ∀ i ∈ slots, ∀ j ∈ slots, (s.point i).nodeSlot = (s.point j).nodeSlot := by
  cases slots with
  | nil => simp [State.oneNode]
  | cons i rest =>
    simp only [State.oneNode, List.all_eq_true, beq_iff_eq]
    refine ⟨fun h => ?_, fun h j hj => h j (.tail _ hj) i (.head _)⟩
    have hfirst (j : DirSlot) (hj : j ∈ i :: rest) : (s.point j).nodeSlot = (s.point i).nodeSlot := by
      obtain rfl | hj := List.mem_cons.mp hj
      · rfl
      · exact h j hj
    exact fun j hj j' hj' => (hfirst j hj).trans (hfirst j' hj').symm

/-- The node of the first point stands for the node of every point, which is the same. -/
theorem State.nodeExchanging_iff (hne : slots ≠ [])
    (hone : ∀ i ∈ slots, ∀ j ∈ slots, (s.point i).nodeSlot = (s.point j).nodeSlot) :
    s.nodeExchanging slots = true ↔
      ∀ i ∈ slots, (s.node (s.point i).nodeSlot).state = .online ∨ (s.node (s.point i).nodeSlot).state = .resync := by
  cases slots with
  | nil => exact absurd rfl hne
  | cons i rest =>
    simp only [State.nodeExchanging, Bool.or_eq_true, beq_iff_eq]
    refine ⟨fun h j hj => ?_, fun h => h i (.head _)⟩
    rw [hone j hj i (.head _)]
    exact h

end

/-! ## The demands (R99) -/

/-- The last pair of a point gives its demand. -/
theorem demandAfter_eq (pairs : List (DirSlot × Word32)) (i : DirSlot) (v : Word32) :
    demandAfter pairs i v = ((pairs.reverse.find? fun e => e.1 == i).map Prod.snd).getD v := by
  unfold demandAfter
  induction pairs using List.reverseRecOn with
  | nil => rfl
  | append_singleton init e ih =>
    rw [List.foldl_append, ih, List.reverse_append, List.reverse_singleton, List.singleton_append, List.find?_cons]
    cases he : e.1 == i with
    | true => simp [eq_of_beq he]
    | false => simp [ne_of_beq_false he]

/-- A point of some pair is written, and any other is left (R99). -/
theorem PointRecord.written_eq (r : PointRecord) (pairs : List (DirSlot × Word32)) (i : DirSlot) :
    (if pairs.any (fun e => e.1 == i) then r.setDemand (demandAfter pairs i r.demand) else r) =
      ((pairs.reverse.find? fun e => e.1 == i).map fun e => r.setDemand e.2).getD r := by
  have hany : pairs.any (fun e => e.1 == i) = (pairs.reverse.find? fun e => e.1 == i).isSome := by
    rw [List.isSome_find?, List.any_reverse]
  rw [hany, demandAfter_eq]
  cases pairs.reverse.find? fun e => e.1 == i <;> rfl

/-! ## The rule of WRITE -/

/-- WRITE of a HELD lease of the port and accepted handles makes the five checks on the points and sets their demands (R98, R99). -/
theorem writePoints_of_accepted {s : State} {p : PortId} {h : Nat × Nat} {k : LeaseIndex} {vs : List (Nat × Word32)}
    {slots : List DirSlot} (hcount : countIn 8 vs.length = true) (hlease : s.leaseHeldBy p h = some k)
    (hheld : (s.leaseAt k).state ≠ .lapsed) (hslots : s.checkHandles (vs.map Prod.fst) = .accepted slots) :
    writePoints p (h, vs) s =
      if slots.any (fun i => (s.point i).direction == .inp) then (s, answer .wrongDirection)
      else if slots.any (fun i => (s.point i).lease != some k) then (s, answer .notHeld)
      else if s.oneNode slots = false then (s, answer .mixedNodes)
      else if s.nodeExchanging slots = false then (s, answer .notOnline)
      else if (slots.zip (vs.map Prod.snd)).any (fun e => !(s.point e.1).inRange e.2) then (s, answer .range)
      else (s.writeDemands (slots.zip (vs.map Prod.snd)), answer .ok) := by
  simp only [writePoints, hcount, hlease, hheld, hslots, Bool.true_eq_false, if_false]

/-- Settles O27: the eight checks of R98 one after another, of which each answers the request, and then the demands of R99. -/
theorem writeChecksAndWrites : Obligations.WriteChecksAndWrites := by
  intro s p ix sn vs hbound hlen hasks
  dsimp only
  have hends {t : State} {res : Result} (h : writePoints p ((ix.toNat, sn.toNat), vs) s = (t, answer res)) :
      exec .write s = .next (t.finishGrant p ⟨res, []⟩) :=
    congrArg Host.Outcome.next (State.grant_eq_of_asks hasks (formWrite_countedValues hbound hlen) h)
  refine ⟨fun hout => hends ?_, fun hmin hmax => ?_⟩
  · simp only [writePoints, (countIn_eq_false_iff _ _).mpr hout, if_true]
  have hcount : countIn 8 vs.length = true := (countIn_iff _ _).mpr ⟨hmin, hmax⟩
  refine ⟨fun hnone => hends ?_, fun k hnames hholder => ?_⟩
  · simp only [writePoints, hcount, State.leaseHeldBy_eq_none hnone, Bool.true_eq_false, if_false]
  have hlease := State.leaseHeldBy_eq_some.mpr ⟨hnames, hholder⟩
  refine ⟨fun hlapsed => hends ?_, fun hheld => ⟨fun good bad rest e hsplit hgood hbad => hends ?_, fun pts hpts => ?_⟩⟩
  · simp only [writePoints, hcount, hlease, hlapsed, Bool.true_eq_false, if_false, if_true]
  · have hrefused : s.checkHandles (vs.map Prod.fst) = .refused e := hsplit ▸ State.checkHandles_of_refused hgood hbad
    simp only [writePoints, hcount, hlease, hheld, hrefused, Bool.true_eq_false, if_false]
  have hne : pts ≠ [] := by
    rintro rfl
    rw [List.forall₂_nil_right_iff, List.map_eq_nil_iff] at hpts
    rw [hpts] at hmin
    cases hmin
  have hrule := writePoints_of_accepted hcount hlease hheld (State.checkHandles_of_accepted hpts)
  simp only [State.any_inp_iff, State.any_not_member_iff, State.any_out_of_range_iff, ← Bool.not_eq_true, State.oneNode_iff,
    ite_not] at hrule
  refine ⟨fun hdir => hends ?_, fun hdir hmine => hends ?_, fun hdir hmine hone => hends ?_,
    fun hdir hmine hone hnode => hends ?_, fun hdir hmine hone hnode hrange => hends ?_,
    fun hdir hmine hone hnode hrange => (hends (res := .ok) (t := s.writeDemands (pts.zip (vs.map Prod.snd))) ?_).trans ?_⟩
  · rw [hrule, if_neg hdir]
  · rw [hrule, if_pos hdir, if_neg hmine]
  · rw [hrule, if_pos hdir, if_pos hmine, if_neg hone]
  · rw [hrule, if_pos hdir, if_pos hmine, if_pos hone, if_neg (mt (s.nodeExchanging_iff pts hne hone).mp hnode)]
  · rw [hrule, if_pos hdir, if_pos hmine, if_pos hone, if_pos ((s.nodeExchanging_iff pts hne hone).mpr hnode), if_neg hrange]
  · rw [hrule, if_pos hdir, if_pos hmine, if_pos hone, if_pos ((s.nodeExchanging_iff pts hne hone).mpr hnode), if_pos hrange]
  · refine congrArg (fun t : State => Host.Outcome.next (t.finishGrant p ⟨.ok, []⟩)) (State.event_congr fun i => ?_)
    rw [PointRecord.written_eq]
    cases (pts.zip (vs.map Prod.snd)).reverse.find? fun e => e.1 == i with
    | none => rfl
    | some e => rfl

end Sys2Proof.Machine
end

section
/-! The session requests (R105, R117, R124, R139, R156, R157). -/

namespace Sys2Proof.Machine

/-! ## What the close of a session does to a record -/

/-- A point is released at a close when some lease of the port holds it (R117, R124). -/
theorem State.mem_membersOfPort (s : State) (p : PortId) (i : DirSlot) :
    (s.membersOfPort p).contains i =
      (List.finRange 64).any fun k => (s.leaseAt k).ofPort p && (s.leaseAt k).members.contains i := by
  rw [Bool.eq_iff_iff]
  unfold State.membersOfPort
  rw [table_toList]
  simp [State.leaseAt]

/-! ## OPEN_SESSION and CLOSE_SESSION -/

/-- OPEN_SESSION needs no session and no role (R153), and opens one on the part as it is or after a close (R156). -/
theorem exec_openSession_of_next {s : State} {p : PortId} (hready : s.device = .ready) (hnext : s.nextIs p 0x03 []) :
    exec .openSession s =
      (let u := if (s.port p).sessionOpen then s.closeSession p else s
       .next ((u.setPort p { u.port p with sessionOpen := true, marksEnabled := true, lapsesEnabled := true }).finishGrant p
        ⟨.ok, [byte p.toNat, if s.supervisors.has p then 1 else 0, 0x00, 0x02, 32, 64, 3, 2]⟩)) :=
  congrArg Host.Outcome.next
    (State.grant_runs (pol := ⟨false, false, false⟩) (form := formNone) (act := openSession) hnext (by simp [hready]) rfl nofun nofun)

/-- Settles O41: the two requests run the close and the opening, and the close is read block by block. -/
theorem sessionsOpenAndClose : Obligations.SessionsOpenAndClose := by
  intro s p
  dsimp only
  refine ⟨fun hready hnext => ?_, fun hasks => ?_, fun k => s.closeSession_leaseAt p k, fun i => ?_, s.closeSession_port_self p,
    fun q hq => s.closeSession_port_other p hq, s.closeSession_frame p⟩
  · rw [exec_openSession_of_next hready hnext]
    refine ⟨fun hclosed => ?_, fun hopen => ?_⟩
    · simp only [hclosed, Bool.false_eq_true, if_false]
    · simp only [hopen, if_true]
  · exact congrArg Host.Outcome.next (State.grant_eq_of_asks (act := closeSessionRule) hasks rfl rfl)
  · rw [State.closeSession_point]
    simp only [State.mem_membersOfPort]
    rfl

end Sys2Proof.Machine
end

section
/-! The law of leases and their members (R106, R107, R109, R110, R114) on one record: every step of a lease record keeps the ranges of its state,
and every step of a point record keeps what R109 and R110 say of the record alone. -/

namespace Sys2Proof.Machine

/-! ## Lease records (R106, R107, R114) -/

theorem LeaseRecord.held_of_state {r : LeaseRecord} (hfree : r.state ≠ .free) (hlapsed : r.state ≠ .lapsed) : r.state = .held := by
  cases hstate : r.state with
  | free => exact absurd hstate hfree
  | held => rfl
  | lapsed => exact absurd hstate hlapsed

/-- The ranges of a HELD lease (R106, R114). -/
theorem LeaseRecord.lawful_held_iff {r : LeaseRecord} (h : r.state = .held) :
    r.lawful ↔ r.serial ≤ 255 ∧ r.members.length ≤ 32 ∧ r.lostMembers ≤ 255 ∧ r.holder ≠ none ∧ 20 ≤ r.term ∧ r.term ≤ 60000 ∧
      1 ≤ r.remaining ∧ r.remaining ≤ r.term ∧ r.cause = none ∧ 1 ≤ r.serial := by
  unfold LeaseRecord.lawful
  rw [h]

/-- A lease whose members become fewer, of which some may be counted as lost, keeps the ranges of its state. -/
theorem LeaseRecord.lawful_fewer {r : LeaseRecord} (h : r.lawful) {members : List DirSlot} (hsub : members.Sublist r.members)
    {lost : Nat} (hlost : lost ≤ 255) (hnone : r.members = [] → lost = r.lostMembers) :
    ({ r with members := members, lostMembers := lost } : LeaseRecord).lawful := by
  obtain ⟨hserial, hlength, -, hstate⟩ := h
  refine ⟨hserial, hsub.length_le.trans hlength, hlost, ?_⟩
  cases hst : r.state with
  | free =>
    rw [hst] at hstate
    obtain ⟨hholder, hterm, hremaining, hmembers, hzero, hcause⟩ := hstate
    exact ⟨hholder, hterm, hremaining, List.eq_nil_of_sublist_nil (hmembers ▸ hsub), (hnone hmembers).trans hzero, hcause⟩
  | held => rw [hst] at hstate; exact hstate
  | lapsed =>
    rw [hst] at hstate
    obtain ⟨hholder, hremaining, hmembers, hcause⟩ := hstate
    exact ⟨hholder, hremaining, List.eq_nil_of_sublist_nil (hmembers ▸ hsub), hcause⟩

theorem LeaseRecord.lawful_freed {r : LeaseRecord} (h : r.lawful) : r.freed.lawful :=
  ⟨h.1, Nat.zero_le _, Nat.zero_le _, rfl, rfl, rfl, rfl, rfl, rfl⟩

theorem LeaseRecord.lawful_lapse {r : LeaseRecord} (h : r.lawful) (hheld : r.state = .held) (cause : LapseCause) :
    (r.lapse cause).lawful := by
  obtain ⟨hserial, -, hlost, hholder, -, -, -, -, -, hpositive⟩ := (LeaseRecord.lawful_held_iff hheld).mp h
  exact ⟨hserial, Nat.zero_le _, hlost, hholder, rfl, rfl, Option.some_ne_none cause, hpositive⟩

/-- A HELD lease at a tick counts down while its remaining time stays above 0, and lapses otherwise (R114). -/
theorem LeaseRecord.lawful_tick {r : LeaseRecord} (h : r.lawful) : r.tick.lawful := by
  unfold LeaseRecord.tick
  split
  · rename_i hexpires
    obtain ⟨hheld, -⟩ := (LeaseRecord.expiring_iff r).mp hexpires
    exact LeaseRecord.lawful_lapse h hheld _
  · rename_i hstays
    split
    · rename_i hheld
      have hleft : ¬r.remaining ≤ 1 := fun hleft => hstays ((LeaseRecord.expiring_iff r).mpr ⟨hheld, hleft⟩)
      obtain ⟨hserial, hlength, hlost, hholder, hmin, hmax, -, hterm, hcause, hpositive⟩ := (LeaseRecord.lawful_held_iff hheld).mp h
      refine (LeaseRecord.lawful_held_iff (by exact hheld)).mpr ⟨hserial, hlength, hlost, hholder, hmin, hmax, ?_, ?_, hcause, hpositive⟩
      · dsimp only; omega
      · dsimp only; omega
    · exact h

/-- Every step of a lease record keeps it in the ranges of its state. -/
theorem LeaseStep.lawful {r r' : LeaseRecord} (h : LeaseStep r r') (hr : r.lawful) : r'.lawful := by
  cases h with
  | opened p term hfree hmin hmax =>
    have hserial : 1 ≤ nextSerial r.serial ∧ nextSerial r.serial ≤ 255 := by unfold nextSerial; split <;> omega
    exact ⟨hserial.2, Nat.zero_le _, Nat.zero_le _, Option.some_ne_none p, hmin, hmax, (by decide : 1 ≤ 20).trans hmin, le_rfl, rfl,
      hserial.1⟩
  | renewed hfree hlapsed =>
    have hheld := LeaseRecord.held_of_state hfree hlapsed
    obtain ⟨hserial, hlength, -, hholder, hmin, hmax, -, -, hcause, hpositive⟩ := (LeaseRecord.lawful_held_iff hheld).mp hr
    exact (LeaseRecord.lawful_held_iff (by exact hheld)).mpr
      ⟨hserial, hlength, Nat.zero_le _, hholder, hmin, hmax, (by decide : 1 ≤ 20).trans hmin, le_rfl, hcause, hpositive⟩
  | claimed members hfree hlapsed hfits =>
    have hheld := LeaseRecord.held_of_state hfree hlapsed
    obtain ⟨hserial, -, hrest⟩ := (LeaseRecord.lawful_held_iff hheld).mp hr
    exact (LeaseRecord.lawful_held_iff (by exact hheld)).mpr ⟨hserial, hfits, hrest⟩
  | released members hsub => exact LeaseRecord.lawful_fewer hr hsub hr.2.2.1 fun _ => rfl
  | lost gone =>
    refine LeaseRecord.lawful_fewer hr List.filter_sublist (Nat.min_le_left _ _) fun hnone => ?_
    have hbound := hr.2.2.1
    simp [satAdd, hnone, hbound]
  | lapsed cause hfree hlapsed => exact LeaseRecord.lawful_lapse hr (LeaseRecord.held_of_state hfree hlapsed) cause
  | freed => exact LeaseRecord.lawful_freed hr
  | tick => exact LeaseRecord.lawful_tick hr

/-! ## Point records (R109, R110) -/

/-- R109, R110 of one record: a member is a LIVE or ORPHANED OUT point, and an OUT point of no lease has demand equal to its safe value, from its
reservation on. -/
def PointRecord.membershipLawful (r : PointRecord) : Prop :=
  (r.lease ≠ none → r.published = true ∧ r.direction = .out) ∧
    (r.state ≠ .free → r.state ≠ .retired → r.direction = .out → r.lease = none → r.demand = r.safeValue)

/-- The law reads nothing that a reportable change writes (R128). -/
@[simp] theorem PointRecord.membershipLawful_report (b a : PointRecord) :
    (report b a).membershipLawful ↔ a.membershipLawful := by
  simp [PointRecord.membershipLawful, PointRecord.published]

/-- A record in state FREE or RETIRED that is in no lease. -/
theorem PointRecord.membershipLawful_of_idle {r : PointRecord} (hidle : r.idle) (hlease : r.lease = none) : r.membershipLawful :=
  ⟨fun h => absurd hlease h, fun hfree hretired => (hidle.elim hfree hretired).elim⟩

/-- What the law reads of a record. -/
def PointRecord.membership (r : PointRecord) : PointState × Direction × Option LeaseIndex × Word32 × Word32 :=
  (r.state, r.direction, r.lease, r.demand, r.safeValue)

theorem PointRecord.membershipLawful_congr {r r' : PointRecord} (hr : r.membershipLawful) (h : r'.membership = r.membership) :
    r'.membershipLawful := by
  simp only [PointRecord.membership, Prod.mk.injEq] at h
  obtain ⟨hstate, hdir, hlease, hdemand, hsafe⟩ := h
  simpa only [PointRecord.membershipLawful, PointRecord.published, hstate, hdir, hlease, hdemand, hsafe] using hr

/-- A record that enters or leaves the service of its node, with its membership as it was. -/
theorem PointRecord.membershipLawful_published {r r' : PointRecord} (hr : r.membershipLawful) (hbefore : ¬r.idle)
    (hafter : r'.published = true) (hdir : r'.direction = r.direction) (hlease : r'.lease = r.lease) (hdemand : r'.demand = r.demand)
    (hsafe : r'.safeValue = r.safeValue) : r'.membershipLawful := by
  obtain ⟨hmember, hother⟩ := hr
  rw [PointRecord.idle, not_or] at hbefore
  unfold PointRecord.membershipLawful
  rw [hdir, hlease, hdemand, hsafe]
  exact ⟨fun hsome => ⟨hafter, (hmember hsome).2⟩, fun _ _ => hother hbefore.1 hbefore.2⟩

theorem PointRecord.membershipLawful_release (r : PointRecord) : r.release.membershipLawful :=
  ⟨fun h => absurd rfl h, fun _ _ _ _ => rfl⟩

theorem PointRecord.membership_endSubstitution (r : PointRecord) : r.endSubstitution.membership = r.membership := rfl

theorem PointRecord.membership_exchanged (r : PointRecord) (ans : Answer) : (r.exchanged ans).membership = r.membership := by
  unfold PointRecord.exchanged PointRecord.takeInput PointRecord.confirm
  dsimp only
  split
  · split <;> rfl
  · split
    · rfl
    · split <;> rfl

theorem PointRecord.membership_holdCleared (r : PointRecord) : r.holdCleared.membership = r.membership := by
  unfold PointRecord.holdCleared
  split <;> rfl

theorem PointRecord.membership_resyncReturn (r : PointRecord) : r.resyncReturn.membership = r.membership := by
  unfold PointRecord.resyncReturn
  split <;> rfl

theorem PointRecord.membership_exchangeFailed (r : PointRecord) : r.exchangeFailed.membership = r.membership := by
  unfold PointRecord.exchangeFailed
  split
  · rfl
  · split
    · split <;> rfl
    · rfl

theorem PointRecord.membership_lose (r : PointRecord) :
    r.lose.membership = ({ r with state := .orphaned } : PointRecord).membership := by
  unfold PointRecord.lose
  split
  · rfl
  · split <;> rfl

/-- The loss of its node leaves a LIVE record its membership (R14). -/
theorem PointRecord.membershipLawful_lose {r : PointRecord} (hr : r.membershipLawful) (hlive : r.state = .live) :
    r.lose.membershipLawful :=
  PointRecord.membershipLawful_congr
    (r := { r with state := .orphaned })
    (PointRecord.membershipLawful_published hr (by simp [PointRecord.idle, hlive]) (by simp [PointRecord.published]) rfl rfl rfl rfl)
    r.membership_lose

theorem PointRecord.retire_lease (r : PointRecord) : r.retire.lease = none := by
  unfold PointRecord.retire noteChange PointRecord.withdrawn
  split
  · rfl
  · split <;> rfl

theorem PointRecord.membershipLawful_dropWatcher {r : PointRecord} (hr : r.membershipLawful) (p : PortId) :
    (r.dropWatcher p).membershipLawful := by
  unfold PointRecord.dropWatcher
  dsimp only
  split
  · exact PointRecord.membershipLawful_of_idle (.inl rfl) rfl
  · exact PointRecord.membershipLawful_congr hr rfl

theorem PointRecord.membershipLawful_closeFor {r : PointRecord} (hr : r.membershipLawful) (p : PortId) (member : Bool) :
    (r.closeFor p member).membershipLawful := by
  have hrelease : (if member then r.release else r).membershipLawful := by
    split
    · exact r.membershipLawful_release
    · exact hr
  have hend {x : PointRecord} (hx : x.membershipLawful) :
      (if x.substPort = some p then x.endSubstitution else x).membershipLawful := by
    split
    · exact PointRecord.membershipLawful_congr hx x.membership_endSubstitution
    · exact hx
  exact hend hrelease

/-- Every step of a point record keeps what R109 and R110 say of it. -/
theorem RecordStep.membershipLawful {r r' : PointRecord} (h : RecordStep r r') (hr : r.membershipLawful) : r'.membershipLawful := by
  have member {r' : PointRecord} (hsome : r.lease ≠ none) (hstate : r'.state = r.state) (hdir : r'.direction = r.direction)
      (hlease : r'.lease = r.lease) : r'.membershipLawful :=
    ⟨fun _ => by unfold PointRecord.published; rw [hstate, hdir]; exact hr.1 hsome,
      fun _ _ _ hnone => absurd (hlease ▸ hnone) hsome⟩
  have same {r' : PointRecord} (h : r'.membership = r.membership) : r'.membershipLawful := PointRecord.membershipLawful_congr hr h
  cases h with
  | reset => exact PointRecord.membershipLawful_of_idle (.inl rfl) rfl
  | reserve n index offset d => exact ⟨fun h => absurd rfl h, fun _ _ _ _ => rfl⟩
  | unreserve => exact PointRecord.membershipLawful_of_idle (.inl rfl) rfl
  | publish hreserved =>
    exact PointRecord.membershipLawful_published hr (by simp [PointRecord.idle, hreserved]) rfl rfl rfl rfl rfl
  | lose hlive => simpa using PointRecord.membershipLawful_lose hr hlive
  | back horphaned =>
    rw [PointRecord.membershipLawful_report]
    exact PointRecord.membershipLawful_published hr (by simp [PointRecord.idle, horphaned]) rfl rfl rfl rfl rfl
  | retire => exact PointRecord.membershipLawful_of_idle r.retire_idle r.retire_lease
  | exchanged ans => simpa using same (r.membership_exchanged ans)
  | holdCleared => simpa using same r.membership_holdCleared
  | resyncReturn => simpa using same r.membership_resyncReturn
  | exchangeFailed => simpa using same r.membership_exchangeFailed
  | failedAndLost hlive =>
    have hstate : r.exchangeFailed.state = r.state := congrArg Prod.fst r.membership_exchangeFailed
    simpa using PointRecord.membershipLawful_lose (same r.membership_exchangeFailed) (hstate.trans hlive)
  | clearInFlight => exact same rfl
  | snapshot => exact same rfl
  | write v _ _ hsome => simpa using member (r' := r.setDemand v) hsome rfl rfl rfl
  | setSafe v _ _ hsome => simpa using member (r' := r.setSafe v) hsome rfl rfl rfl
  | substitute p v => simpa using same (r' := r.substituteBy p v) rfl
  | endSubstitution => simpa using same r.membership_endSubstitution
  | claim k hpublished hout =>
    rw [PointRecord.membershipLawful_report]
    exact ⟨fun _ => ⟨hpublished, hout⟩, fun _ _ _ hnone => absurd hnone (Option.some_ne_none k)⟩
  | release => simpa using r.membershipLawful_release
  | closeFor p member => simpa using PointRecord.membershipLawful_closeFor hr p member
  | watch p => exact same rfl
  | unwatch p => exact PointRecord.membershipLawful_dropWatcher hr p
  | acknowledge p => exact same rfl
  | setDeadband d => exact same rfl

end Sys2Proof.Machine
end

section
/-! The lease fields of the points and the member lists of the leases (R109): the operations of the directory, of the node table and of the
links keep each naming the other. -/

namespace Sys2Proof.Machine

/-! ## Lease fields of single records -/

/-- R109 of one record: a member is a LIVE or ORPHANED point. -/
def PointRecord.leaseLawful (r : PointRecord) : Prop := r.lease ≠ none → r.published = true

/-- The one record comes from the other by a change that leaves its lease field. -/
structure PointRecord.KeepsLease (r r' : PointRecord) : Prop where
  lease : r.leaseLawful → r'.lease = r.lease
  lawful : r.leaseLawful → r'.leaseLawful

namespace PointRecord.KeepsLease

theorem of_lease {r r' : PointRecord} (hlease : r'.lease = r.lease) (hpublished : r.published = true → r'.published = true) :
    r.KeepsLease r' :=
  ⟨fun _ => hlease, fun hr hsome => hpublished (hr (hlease ▸ hsome))⟩

theorem refl (r : PointRecord) : r.KeepsLease r := of_lease rfl id

theorem trans {r r' r'' : PointRecord} (h : r.KeepsLease r') (h' : r'.KeepsLease r'') : r.KeepsLease r'' :=
  ⟨fun hr => (h'.lease (h.lawful hr)).trans (h.lease hr), h'.lawful ∘ h.lawful⟩

theorem report {r r' : PointRecord} (h : r.KeepsLease r') : r.KeepsLease (report r r') where
  lease hr := (report_lease r r').trans (h.lease hr)
  lawful hr := by
    have hlawful := h.lawful hr
    unfold PointRecord.leaseLawful PointRecord.published at hlawful ⊢
    rw [report_lease, report_state]
    exact hlawful

theorem of_membership {r r' : PointRecord} (h : r'.membership = r.membership) : r.KeepsLease r' := by
  simp only [PointRecord.membership, Prod.mk.injEq] at h
  obtain ⟨hstate, -, hlease, -⟩ := h
  exact of_lease hlease (by unfold PointRecord.published; rw [hstate]; exact id)

/-- A record that is neither LIVE nor ORPHANED is in no lease, and stays in none. -/
theorem of_absent {r r' : PointRecord} (h : r.published = false) (hnone : r'.lease = none) : r.KeepsLease r' where
  lease hr := by
    by_contra hsome
    rw [hr fun hnone' => hsome (hnone.trans hnone'.symm)] at h
    cases h
  lawful _ hsome := absurd hnone hsome

theorem freed {r : PointRecord} (h : r.published = false) : r.KeepsLease r.freed := of_absent h rfl

theorem lose (r : PointRecord) : r.KeepsLease r.lose := by
  have hlose := r.membership_lose
  simp only [PointRecord.membership, Prod.mk.injEq] at hlose
  obtain ⟨hstate, -, hlease, -⟩ := hlose
  exact of_lease hlease fun _ => by unfold PointRecord.published; rw [hstate]; rfl

theorem dropWatcher (r : PointRecord) (p : PortId) : r.KeepsLease (r.dropWatcher p) := by
  unfold PointRecord.dropWatcher
  dsimp only
  split
  · rename_i hlast
    exact of_absent (PointRecord.not_published_of_state (.inr (.inl hlast.1))) rfl
  · exact of_membership rfl

theorem acknowledgedBy (r : PointRecord) (p : PortId) : r.KeepsLease (r.acknowledgedBy p) := by
  unfold PointRecord.acknowledgedBy
  split
  · exact dropWatcher r p
  · exact of_membership rfl

theorem endSubstitutionBy (r : PointRecord) (p : PortId) :
    r.KeepsLease (if r.substPort = some p then r.endSubstitution else r) := by
  split
  · exact of_membership r.membership_endSubstitution
  · exact refl r

end PointRecord.KeepsLease

/-! ## Lease fields and member lists -/

/-- R109: a point names a lease exactly when the lease's list holds its slot, no list holds a slot twice, and every member is a LIVE or
ORPHANED point. -/
structure State.MembersLinked (s : State) : Prop where
  names : ∀ i k, (s.point i).lease = some k ↔ i ∈ (s.leaseAt k).members
  nodup : ∀ k, (s.leaseAt k).members.Nodup
  published : ∀ i, (s.point i).leaseLawful

theorem membersLaw_iff (s : State) : MembersLaw s ↔ s.MembersLinked ∧ ∀ i, (s.point i).membershipLawful := by
  refine ⟨fun ⟨hnames, hnodup, hmembers, hothers⟩ => ?_, fun ⟨⟨hnames, hnodup, _⟩, hrecords⟩ => ?_⟩
  · have hmember (i : DirSlot) (hsome : (s.point i).lease ≠ none) :
        (s.point i).published = true ∧ (s.point i).direction = .out := by
      obtain ⟨k, hk⟩ := Option.ne_none_iff_exists'.mp hsome
      exact hmembers i k hk
    exact ⟨⟨hnames, hnodup, fun i hsome => (hmember i hsome).1⟩, fun i => ⟨hmember i, hothers i⟩⟩
  · exact ⟨hnames, hnodup, fun i k hk => (hrecords i).1 (hk ▸ Option.some_ne_none k), fun i => (hrecords i).2⟩

namespace State.MembersLinked

/-- Some points leave their leases: their lease fields become absent, and the member lists lose them. -/
theorem depart {s t : State} (h : s.MembersLinked) (gone : DirSlot → Bool)
    (hgone : ∀ i, gone i = true → (t.point i).lease = none)
    (hkept : ∀ i, gone i = false → (s.point i).KeepsLease (t.point i))
    (hmembers : ∀ k, (t.leaseAt k).members = (s.leaseAt k).members.filter fun i => !gone i) : t.MembersLinked := by
  refine ⟨fun i k => ?_, fun k => ?_, fun i => ?_⟩
  · rw [hmembers, List.mem_filter, ← h.names]
    cases hi : gone i with
    | true => simp [hgone i hi]
    | false => simp [(hkept i hi).lease (h.published i)]
  · rw [hmembers]; exact (h.nodup k).filter _
  · cases hi : gone i with
    | true => exact fun hsome => absurd (hgone i hi) hsome
    | false => exact (hkept i hi).lawful (h.published i)

/-- No point leaves or joins a lease. -/
theorem keep {s t : State} (h : s.MembersLinked) (hpoint : ∀ i, (s.point i).KeepsLease (t.point i))
    (hmembers : ∀ k, (t.leaseAt k).members = (s.leaseAt k).members) : t.MembersLinked :=
  h.depart (fun _ => false) nofun (fun i _ => hpoint i) fun k => by simp [hmembers]

theorem congr {s t : State} (h : s.MembersLinked) (hpoints : t.points = s.points) (hleases : t.leases = s.leases) :
    t.MembersLinked :=
  h.keep (fun i => by unfold State.point; rw [hpoints]; exact .refl _) fun k => by unfold State.leaseAt; rw [hleases]

/-- Right after a reset there are no members. -/
theorem of_reset {t : State} (hpoints : t.points = State.reset.points) (hleases : t.leases = State.reset.leases) :
    t.MembersLinked := by
  obtain ⟨-, -, -, -, -, -, hmembers, -⟩ := lawsHoldAtReset
  exact ((membersLaw_iff _).mp hmembers).1.congr hpoints hleases

/-! ## Updates

Each rule appends one more update or operation to those that have kept the lists so far. -/

section
variable {s : State} (h : s.MembersLinked)
include h

theorem setPort {p : PortId} {r : PortRecord} : (s.setPort p r).MembersLinked := h.congr (by simp) (by simp)

theorem setLink {l : LinkId} {r : LinkRecord} : (s.setLink l r).MembersLinked := h.congr (by simp) (by simp)

theorem setNode {n : NodeSlot} {r : NodeRecord} : (s.setNode n r).MembersLinked := h.congr rfl rfl

theorem mapNodes {f : NodeSlot → NodeRecord → NodeRecord} : (s.mapNodes f).MembersLinked := h.congr rfl rfl

theorem setNameMap {m : List (Text × DirSlot)} : (s.setNameMap m).MembersLinked := h.congr rfl rfl

theorem setPending {q : List Instr} : (s.setPending q).MembersLinked := h.congr rfl rfl

theorem finishGrant {p : PortId} {r : Response} : (s.finishGrant p r).MembersLinked := h.congr (by simp) (by simp)

/-- A change of a lease record that leaves its members. -/
theorem setLease {k : LeaseIndex} {r : LeaseRecord} (hr : r.members = (s.leaseAt k).members) : (s.setLease k r).MembersLinked :=
  h.keep (fun _ => .refl _) fun k' => by
    rw [State.setLease_leaseAt]
    split
    · rename_i hk; rw [hk, hr]
    · rfl

theorem updatePoints {g : DirSlot → PointRecord → PointRecord} (hg : ∀ i (r : PointRecord), r.KeepsLease (g i r)) :
    (s.updatePoints g).MembersLinked :=
  h.keep (fun i => by rw [State.updatePoints_point]; exact hg i _) fun _ => rfl

theorem event {f : DirSlot → PointRecord → PointRecord} (hf : ∀ i (r : PointRecord), r.KeepsLease (f i r)) :
    (s.event f).MembersLinked := h.updatePoints fun i r => (hf i r).report

/-- An update of the records that meet a test. -/
theorem updateWhere {c : DirSlot → PointRecord → Prop} [∀ i r, Decidable (c i r)] {f : DirSlot → PointRecord → PointRecord}
    (hf : ∀ i (r : PointRecord), c i r → r.KeepsLease (f i r)) : (s.updatePoints fun i r => if c i r then f i r else r).MembersLinked :=
  h.updatePoints fun i r => by
    split
    · rename_i hc; exact hf i r hc
    · exact .refl r

/-- An event of the records that meet a test. -/
theorem eventWhere {c : DirSlot → PointRecord → Prop} [∀ i r, Decidable (c i r)] {f : DirSlot → PointRecord → PointRecord}
    (hf : ∀ i (r : PointRecord), r.KeepsLease (f i r)) : (s.event fun i r => if c i r then f i r else r).MembersLinked :=
  h.event fun i r => by
    split
    · exact hf i r
    · exact .refl r

/-! ## The operations of the directory and of the node table -/

/-- Retirement takes the published points of a node out of their leases (R15, R123). -/
theorem retireNode (n : NodeSlot) : (s.retireNode n).MembersLinked :=
  h.depart (fun i => (s.point i).publishedOf n)
    (fun i hi => by rw [State.retireNode_point, if_pos hi]; exact PointRecord.retire_lease _)
    (fun i hi => by rw [State.retireNode_point, hi]; exact .refl _)
    fun k => by rw [State.retireNode_leaseAt]; rfl

theorem releaseReservations (n : NodeSlot) : (s.releaseReservations n).MembersLinked :=
  h.updateWhere fun _ _ hc => .freed (PointRecord.not_published_of_state (.inr (.inr hc.1)))

theorem publish (n : NodeSlot) : (s.publish n).MembersLinked := h.setNameMap.updateWhere fun _ _ _ => .of_lease rfl fun _ => rfl

theorem loseNodes (sel : NodeSlot → Bool) (cause : LostCause) : (s.loseNodes sel cause).MembersLinked :=
  h.mapNodes.eventWhere fun _ r => .lose r

theorem refuseNode {n : NodeSlot} {r : NodeRecord} {why : RefuseReason} : (s.refuseNode n r why).MembersLinked :=
  (h.releaseReservations n).setNode

theorem completeDescribing {n : NodeSlot} : (s.completeDescribing n).MembersLinked := (h.publish n).setNode

theorem clearSeqBit {l : LinkId} {a : NodeAddr} : (s.clearSeqBit l a).MembersLinked := h.setLink

theorem advanceCursor {n : NodeSlot} : (s.advanceCursor n).MembersLinked := by
  unfold State.advanceCursor
  dsimp only
  split
  · exact h.setNode.completeDescribing
  · exact h.setNode

/-- A reserved record was FREE, and is in no lease before and after (R9). -/
theorem reserve {n : NodeSlot} {i : DirSlot} {index offset : Nat} {d : Descriptor} (hfree : (s.point i).state = .free) :
    (s.updatePoints fun j r => if j = i then reservedRecord r.generation n index offset d else r).MembersLinked :=
  h.keep (fun j => by
    rw [State.updatePoints_point]
    split
    · rename_i hj
      subst hj
      exact .of_absent (PointRecord.not_published_of_state (.inl hfree)) rfl
    · exact .refl _) fun _ => rfl

theorem placeElement {n : NodeSlot} {d : Descriptor} : (s.placeElement n d).MembersLinked := by
  unfold State.placeElement
  dsimp only
  split
  · exact h.refuseNode
  split
  · exact h.setNode.advanceCursor
  split
  · exact h.refuseNode
  · rename_i hfree
    exact (h.setNode.reserve (eq_of_beq ((lowest_eq_some _ _ _).mp hfree).1)).advanceCursor

theorem describeAnswered (n : NodeSlot) (ans : Answer) : (s.describeAnswered n ans).MembersLinked := by
  unfold State.describeAnswered
  dsimp only
  split
  · exact (h.releaseReservations n).setNode
  split
  · split
    · exact h.setNode.placeElement
    · exact h.refuseNode
  · exact h.refuseNode

theorem describeFailed (l : LinkId) (n : NodeSlot) : (s.describeFailed l n).MembersLinked := by
  unfold State.describeFailed
  dsimp only
  split
  · exact (h.releaseReservations n).setNode
  · exact h.setNode

theorem enterResync {n : NodeSlot} {r : NodeRecord} : (s.enterResync n r).MembersLinked :=
  h.setNode.updateWhere fun _ _ _ => .of_membership rfl

theorem exchangeAnswered (n : NodeSlot) (ans : Answer) : (s.exchangeAnswered n ans).MembersLinked := by
  unfold State.exchangeAnswered
  dsimp only
  split
  · exact h.enterResync
  · exact h.setNode.eventWhere fun _ r => .of_membership (r.membership_exchanged ans)

theorem clearHoldAnswered (n : NodeSlot) (ans : Answer) : (s.clearHoldAnswered n ans).MembersLinked := by
  unfold State.clearHoldAnswered
  dsimp only
  split
  · exact h.enterResync
  · exact h.setNode.eventWhere fun _ r => .of_membership r.membership_holdCleared

theorem exchangeFailed (l : LinkId) (n : NodeSlot) : (s.exchangeFailed l n).MembersLinked :=
  h.setNode.eventWhere fun _ r => by
    have hfailed : r.KeepsLease r.exchangeFailed := .of_membership r.membership_exchangeFailed
    split
    · exact hfailed.trans (.lose _)
    · exact hfailed

theorem newcomer {l : LinkId} {a : NodeAddr} {id : Option Identity} : (s.newcomer l a id).MembersLinked := by
  unfold State.newcomer
  dsimp only
  split
  · exact h.refuseNode
  split
  · exact h.refuseNode
  split
  · exact h.refuseNode
  split
  · exact h.setNode.clearSeqBit.completeDescribing
  · exact h.setNode.clearSeqBit

theorem returnNode {l : LinkId} {a : NodeAddr} : (s.returnNode l a).MembersLinked := h.setNode.clearSeqBit

theorem probeAnswered (l : LinkId) (a : NodeAddr) (ans : Answer) : (s.probeAnswered l a ans).MembersLinked := by
  unfold State.probeAnswered
  dsimp only
  split
  · exact h.setNode.newcomer
  split
  · split
    · exact h.setNode.returnNode.eventWhere fun _ r => .of_membership r.membership_resyncReturn
    split
    · exact h.setNode.returnNode.eventWhere fun _ _ => .of_lease rfl fun _ => rfl
    · exact h.setNode.setNode
  · exact (h.setNode.retireNode _).newcomer

theorem probeFailed (l : LinkId) (a : NodeAddr) : (s.probeFailed l a).MembersLinked := by
  unfold State.probeFailed
  dsimp only
  split
  · split
    · exact h.loseNodes _ _
    · exact h.setNode
  · exact h

theorem takeCompletion (l : LinkId) (a : NodeAddr) (kind : CallKind) (ans : Option Answer) :
    (s.takeCompletion l a kind ans).MembersLinked := by
  cases kind with
  | probe => cases ans with
    | none => exact h.probeFailed l a
    | some ans => exact h.probeAnswered l a ans
  | describe => cases ans with
    | none => exact h.describeFailed l _
    | some ans => exact h.describeAnswered _ ans
  | exchange => cases ans with
    | none => exact h.exchangeFailed l _
    | some ans => exact h.exchangeAnswered _ ans
  | clearHold => cases ans with
    | none => exact h.exchangeFailed l _
    | some ans => exact h.clearHoldAnswered _ ans
  | park => exact h.setNode

theorem discardCompletion (n : NodeSlot) (kind : CallKind) : (s.discardCompletion n kind).MembersLinked := by
  unfold State.discardCompletion
  split
  · exact h.updateWhere fun _ _ _ => .of_membership rfl
  · exact h

/-! ## The link engines -/

theorem startCycle {l : LinkId} : (s.startCycle l).MembersLinked := h.setLink.setLink

theorem proceed {l : LinkId} : (s.proceed l).MembersLinked := by
  unfold State.proceed
  split
  · split
    · exact h
    split
    · exact h.startCycle
    · exact h.setLink
  · exact h

theorem cycleExpiry (l : LinkId) : (s.cycleExpiry l).MembersLinked := by
  unfold State.cycleExpiry
  dsimp only
  split
  · exact h.startCycle
  split
  · exact h.setLink
  · exact h.setLink.proceed

theorem completeCall (l : LinkId) (c : Call) (a : NodeAddr) (ans : Option Answer) : (s.completeCall l c a ans).MembersLinked := by
  unfold State.completeCall
  dsimp only
  split
  · exact (h.setLink.takeCompletion _ _ _ _).proceed
  · exact (h.setLink.discardCompletion _ _).proceed

theorem attemptFails (l : LinkId) : (s.attemptFails l).MembersLinked := by
  unfold State.attemptFails
  split
  · exact h
  split
  · exact h.completeCall _ _ _ _
  · exact h.setLink

theorem takeSnapshot (n : NodeSlot) : (s.takeSnapshot n).MembersLinked := h.updateWhere fun _ _ _ => .of_membership rfl

theorem buildExchange {l : LinkId} {a : NodeAddr} : (s.buildExchange l a).MembersLinked := by
  unfold State.buildExchange
  dsimp only
  split
  · exact h.setLink
  · exact (h.takeSnapshot _).setLink

theorem buildService {l : LinkId} {c : ServiceClass} {a : NodeAddr} : (s.buildService l c a).MembersLinked := by
  cases c with
  | owedPark | resync | describe | lost | vacant => exact h.setLink.setLink

theorem buildNext (l : LinkId) : (s.buildNext l).MembersLinked := by
  unfold State.buildNext
  split
  · exact h.setLink.buildExchange
  split
  · split
    · exact h.setLink.buildService
    · exact h.proceed
  · exact h.proceed

theorem callBuild (l : LinkId) : (s.callBuild l).MembersLinked := by
  unfold State.callBuild
  dsimp only
  split
  · exact h
  split
  · exact h
  · split
    · exact h
    · exact h.buildNext l
  · exact h.setLink

theorem endStop (l : LinkId) : (s.endStop l).MembersLinked :=
  ((h.loseNodes _ _).updateWhere fun _ _ hc =>
    .freed (PointRecord.not_published_of_state (.inr (.inr hc.1)))).mapNodes.setLink

end

end State.MembersLinked

end Sys2Proof.Machine
end

section
/-! The lease fields and the member lists at the operations by which points join and leave leases (R109, R113, R114, R117 to R121, R123, R124). -/

namespace Sys2Proof.Machine

/-! ## The member list after a CLAIM (R113) -/

/-- The points that join a list are those not in it yet, each at its first place in the request. -/
theorem joined_eq (members slots : List DirSlot) :
    joined members slots = members ++ (slots.filter fun i => !members.contains i).eraseDups := by
  induction slots generalizing members with
  | nil => simp [joined]
  | cons i rest ih =>
    unfold joined
    rw [ih]
    cases hi : members.contains i with
    | true => simp only [if_true, List.filter_cons, hi, Bool.not_true, Bool.false_eq_true, if_false]
    | false =>
      have hlater : (rest.filter fun j => !members.contains j).filter (fun j => !j == i) =
          rest.filter fun j => !(members ++ [i]).contains j := by
        rw [List.filter_filter]
        refine List.filter_congr fun j _ => ?_
        simp [Bool.and_comm, beq_eq_decide]
      simp only [Bool.false_eq_true, if_false, List.filter_cons, hi, Bool.not_false, if_true, List.eraseDups_cons, hlater,
        List.append_assoc, List.singleton_append]

theorem mem_joined {members slots : List DirSlot} {i : DirSlot} : i ∈ joined members slots ↔ i ∈ members ∨ i ∈ slots := by
  rw [joined_eq, List.mem_append, List.mem_eraseDups, List.mem_filter]
  by_cases hi : i ∈ members <;> simp [hi]

theorem nodup_joined {members : List DirSlot} (h : members.Nodup) (slots : List DirSlot) : (joined members slots).Nodup := by
  induction slots generalizing members with
  | nil => exact h
  | cons i rest ih =>
    unfold joined
    split
    · exact ih h
    · rename_i hi
      refine ih (List.nodup_append.mpr ⟨h, List.nodup_singleton i, fun j hj j' hj' => ?_⟩)
      rintro rfl
      rw [List.mem_singleton.mp hj'] at hj
      exact hi (List.contains_iff_mem.mpr hj)

/-! ## The members that a RELEASE names (R118) -/

theorem releaseEntries_subset (s : State) (left : List DirSlot) (hs : List Nat) : (releaseEntries s left hs).2 ⊆ left := by
  induction hs generalizing left with
  | nil => exact List.nil_subset _
  | cons hd rest ih =>
    unfold releaseEntries
    split
    · exact ih left
    · split
      · rename_i hi
        exact List.cons_subset.mpr ⟨List.contains_iff_mem.mp hi, List.Subset.trans (ih _) (List.filter_subset_self _)⟩
      · exact ih left

/-! ## What a release leaves of a lease -/

theorem LeaseRecord.tick_members (r : LeaseRecord) : r.tick.members = if r.expiring then [] else r.members := by
  unfold LeaseRecord.tick
  split
  · rfl
  · split <;> rfl

theorem State.releaseMembers_point (s : State) (members : List DirSlot) (i : DirSlot) :
    (s.releaseMembers members).point i = report (s.point i) (if members.contains i then (s.point i).release else s.point i) :=
  s.event_point _ i

/-- A released point is in no lease, and every other is as it was. -/
theorem State.releaseMembers_lease {s : State} {members : List DirSlot} {i : DirSlot} (h : members.contains i = true) :
    ((s.releaseMembers members).point i).lease = none := by
  rw [State.releaseMembers_point, if_pos h, report_lease]; rfl

theorem State.releaseMembers_point_other {s : State} {members : List DirSlot} {i : DirSlot} (h : members.contains i = false) :
    (s.releaseMembers members).point i = s.point i := by
  rw [State.releaseMembers_point, h, if_neg Bool.false_ne_true, report_self]

namespace State.MembersLinked

section
variable {s t : State} (h : s.MembersLinked)
include h

/-- A point is in the list of some of the leases exactly when its lease is one of them (R109). -/
theorem any_lists (ends : LeaseIndex → Bool) (i : DirSlot) :
    ((List.finRange 64).any fun k => ends k && (s.leaseAt k).members.contains i) = (s.point i).lease.any ends := by
  rw [Bool.eq_iff_iff, Option.any_eq_true]
  simp only [List.any_eq_true, Bool.and_eq_true, List.contains_iff_mem, ← h.names, List.mem_finRange, true_and]
  exact exists_congr fun k => and_comm

theorem contains_members (k : LeaseIndex) (i : DirSlot) :
    (s.leaseAt k).members.contains i = (s.point i).lease.any fun k' => k' == k := by
  rw [Bool.eq_iff_iff, List.contains_iff_mem, ← h.names, Option.any_eq_true]
  simp

/-- Some leases end: their points leave them, and their lists become empty. -/
theorem endLeases (ends : LeaseIndex → Bool) (hgone : ∀ i, (s.point i).lease.any ends = true → (t.point i).lease = none)
    (hkept : ∀ i, (s.point i).lease.any ends = false → (s.point i).KeepsLease (t.point i))
    (hmembers : ∀ k, (t.leaseAt k).members = if ends k then [] else (s.leaseAt k).members) : t.MembersLinked := by
  refine h.depart (fun i => (s.point i).lease.any ends) hgone hkept fun k => ?_
  have hmember {i : DirSlot} (hi : i ∈ (s.leaseAt k).members) : (s.point i).lease.any ends = ends k := by
    rw [(h.names i k).mpr hi]; rfl
  rw [hmembers]
  split
  · rename_i hends
    exact (List.filter_eq_nil_iff.mpr fun i hi => by simp [hmember hi, hends]).symm
  · rename_i hstays
    exact (List.filter_eq_self.mpr fun i hi => by simp [hmember hi, hstays]).symm

/-- The release of the members of the leases that end. -/
theorem releaseEnded (ends : LeaseIndex → Bool) {members : List DirSlot}
    (hreleased : ∀ i, members.contains i = (s.point i).lease.any ends) (hpoint : ∀ i, t.point i = (s.releaseMembers members).point i)
    (hmembers : ∀ k, (t.leaseAt k).members = if ends k then [] else (s.leaseAt k).members) : t.MembersLinked :=
  h.endLeases ends (fun i hi => by rw [hpoint]; exact State.releaseMembers_lease ((hreleased i).trans hi))
    (fun i hi => by rw [hpoint, State.releaseMembers_point_other ((hreleased i).trans hi)]; exact .refl _) hmembers

/-- A lease whose members are released, and whose record loses its list (R117, R119, R120). -/
theorem releaseLease {k : LeaseIndex} {r : LeaseRecord} (hr : r.members = []) :
    ((s.releaseMembers (s.leaseAt k).members).setLease k r).MembersLinked :=
  h.releaseEnded (fun k' => k' == k) (h.contains_members k) (fun i => by rw [State.setLease_point]) fun k' => by
    rw [State.setLease_leaseAt]
    by_cases hk : k' = k
    · simp [hk, hr]
    · simp [hk, State.releaseMembers]

theorem clockTick : s.clockTick.MembersLinked :=
  h.releaseEnded (fun k => (s.leaseAt k).expiring) (fun i => (s.mem_expiringMembers i).trans (h.any_lists _ i))
    (fun i => by simp [State.clockTick]) fun k => by rw [State.clockTick_leaseAt, LeaseRecord.tick_members]

/-- Some members leave a lease (R117, R118). -/
theorem releaseFrom {k : LeaseIndex} {gone : List DirSlot} (hgone : gone ⊆ (s.leaseAt k).members) :
    (s.releaseFrom k gone).MembersLinked := by
  unfold State.releaseFrom
  refine h.depart gone.contains (fun i hi => ?_) (fun i hi => ?_) fun k' => ?_
  · rw [State.setLease_point]; exact State.releaseMembers_lease hi
  · rw [State.setLease_point, State.releaseMembers_point_other hi]; exact .refl _
  · rw [State.setLease_leaseAt]
    split
    · rename_i hk; rw [hk]
    · rename_i hk
      refine (List.filter_eq_self.mpr fun i hi => ?_).symm
      have hother : i ∉ gone := fun hmem => by
        have hboth := (h.names i k').mpr hi
        rw [(h.names i k).mpr (hgone hmem)] at hboth
        exact hk (Option.some.inj hboth).symm
      simpa using hother

/-- The points of a CLAIM join the lease (R113). -/
theorem claimPoints {k : LeaseIndex} {slots : List DirSlot} (hpublished : ∀ i ∈ slots, (s.point i).published = true)
    (hmine : ∀ i ∈ slots, (s.point i).heldElsewhere k = false) : (s.claimPoints k slots).MembersLinked := by
  have hlease (i : DirSlot) : ((s.claimPoints k slots).point i).lease = if i ∈ slots then some k else (s.point i).lease := by
    unfold State.claimPoints
    rw [State.setLease_point, State.event_point, report_lease]
    by_cases hi : i ∈ slots <;> simp [hi]
  have hmembers (k' : LeaseIndex) : ((s.claimPoints k slots).leaseAt k').members =
      if k' = k then joined (s.leaseAt k).members slots else (s.leaseAt k').members := by
    unfold State.claimPoints
    rw [State.setLease_leaseAt]
    split <;> rfl
  have hstate (i : DirSlot) : ((s.claimPoints k slots).point i).state = (s.point i).state := by
    unfold State.claimPoints
    rw [State.setLease_point, State.event_point, report_state]
    split <;> rfl
  refine ⟨fun i k' => ?_, fun k' => ?_, fun i hsome => ?_⟩
  · rw [hlease, hmembers]
    by_cases hk : k' = k
    · subst hk
      rw [if_pos rfl, mem_joined, ← h.names]
      by_cases hi : i ∈ slots <;> simp [hi]
    · rw [if_neg hk, ← h.names]
      by_cases hi : i ∈ slots
      · have hnot : (s.point i).lease ≠ some k' := fun hk' => by
          have helse := hmine i hi
          rw [PointRecord.heldElsewhere, hk'] at helse
          simp [hk] at helse
        simp [hi, hnot, Ne.symm hk]
      · simp [hi]
  · rw [hmembers]
    split
    · exact nodup_joined (h.nodup k) slots
    · exact h.nodup k'
  · unfold PointRecord.published
    rw [hstate]
    rw [hlease] at hsome
    by_cases hi : i ∈ slots
    · exact hpublished i hi
    · exact h.published i (by simpa [hi] using hsome)

/-- The close of a session ends the leases of its port (R124). -/
theorem closeSession (p : PortId) : (s.closeSession p).MembersLinked := by
  have hreleased (i : DirSlot) : (s.membersOfPort p).contains i = (s.point i).lease.any fun k => (s.leaseAt k).ofPort p :=
    (s.mem_membersOfPort p i).trans (h.any_lists _ i)
  have hpoint (i : DirSlot) : (s.closeSession p).point i =
      (report (s.point i) ((s.point i).closeFor p ((s.point i).lease.any fun k => (s.leaseAt k).ofPort p))).dropWatcher p := by
    rw [State.closeSession_point, State.event_point, hreleased]
  refine h.endLeases (fun k => (s.leaseAt k).ofPort p) (fun i hi => ?_) (fun i hi => ?_) fun k => ?_
  · have hclosed : (report (s.point i) ((s.point i).closeFor p true)).lease = none := by
      rw [report_lease]
      exact (PointRecord.KeepsLease.endSubstitutionBy (s.point i).release p).lease fun hsome => absurd rfl hsome
    rw [hpoint, hi]
    exact ((PointRecord.KeepsLease.dropWatcher _ p).lease fun hsome => absurd hclosed hsome).trans hclosed
  · rw [hpoint, hi]
    exact (PointRecord.KeepsLease.endSubstitutionBy (s.point i) p).report.trans (.dropWatcher _ p)
  · rw [State.closeSession_leaseAt]
    split <;> rfl

theorem openSession (p : PortId) (u : Unit) : (openSession p u s).1.MembersLinked := by
  unfold Machine.openSession
  dsimp only
  split
  · exact (h.closeSession p).setPort
  · exact h.setPort

end

end State.MembersLinked

end Sys2Proof.Machine
end

section
/-! The laws of leases and their members (R106, R107, R109, R110, R114): every command keeps them. -/

namespace Sys2Proof.Machine

namespace State.MembersLinked

section
variable {s : State} (h : s.MembersLinked)
include h

/-! ## The requests on points and watches -/

theorem updatePoint {i : DirSlot} {f : PointRecord → PointRecord} (hf : ∀ r : PointRecord, r.KeepsLease (f r)) :
    (s.updatePoint i f).MembersLinked := h.updateWhere fun _ r _ => hf r

theorem writePoints (p : PortId) (a : (Nat × Nat) × List (Nat × Word32)) : (writePoints p a s).1.MembersLinked := by
  unfold Machine.writePoints
  dsimp only
  repeat' split
  case h_2.isFalse.isFalse.isFalse.isFalse.isFalse => exact h.eventWhere fun _ _ => .of_lease rfl id
  all_goals exact h

theorem setSafePoint (p : PortId) (a : (Nat × Nat) × Nat × Word32) : (setSafePoint p a s).1.MembersLinked := by
  unfold Machine.setSafePoint
  repeat' split
  case h_2.isFalse.isFalse.isFalse => exact h.eventWhere fun _ _ => .of_lease rfl id
  all_goals exact h

theorem substitutePoint (p : PortId) (a : Nat × Word32) : (substitutePoint p a s).1.MembersLinked := by
  unfold Machine.substitutePoint
  split
  · exact h
  split
  · exact h
  split
  · exact h
  · exact h.eventWhere fun _ _ => .of_membership rfl

theorem unsubstitutePoint (p : PortId) (hd : Nat) : (unsubstitutePoint p hd s).1.MembersLinked := by
  unfold Machine.unsubstitutePoint
  split
  · exact h
  split
  · exact h
  split
  · exact h
  · exact h.eventWhere fun _ r => .of_membership r.membership_endSubstitution

theorem setDeadband (p : PortId) (a : Nat × Nat) : (setDeadband p a s).1.MembersLinked := by
  unfold Machine.setDeadband
  split
  · exact h
  split
  · exact h
  split
  · exact h
  · exact h.updatePoint fun _ => .of_membership rfl

theorem watchEntry (p : PortId) (hd : Nat) : (watchEntry p s hd).1.MembersLinked := by
  unfold Machine.watchEntry
  split
  · exact h
  · exact h.updatePoint fun _ => .of_membership rfl

theorem unwatchEntry (p : PortId) (hd : Nat) : (unwatchEntry p s hd).1.MembersLinked := by
  unfold Machine.unwatchEntry
  split
  · exact h
  · exact h.updatePoint fun r => .dropWatcher r p

theorem ackEntry (p : PortId) (a : Nat × BitVec 16) : (ackEntry p s a).1.MembersLinked := by
  unfold Machine.ackEntry
  split
  · exact h
  split
  · exact h
  split
  · exact h.updatePoint fun r => .acknowledgedBy r p
  · exact h

/-- The entries of a request are taken in turn, each on what the earlier ones left. -/
theorem entriesRequest {α : Type} {act : PortId → State → α → State × Result}
    (hact : ∀ p {t : State}, t.MembersLinked → ∀ a, (act p t a).1.MembersLinked) (p : PortId) (as : List α) :
    (entriesRequest act p as s).1.MembersLinked := by
  have heach (t : State) (ht : t.MembersLinked) : (eachEntry (act p) t as).1.MembersLinked := by
    induction as generalizing t with
    | nil => exact ht
    | cons a rest ih => exact ih _ (hact p ht a)
  unfold Machine.entriesRequest
  split
  · exact h
  · exact heach s h

/-! ## The lease requests -/

/-- A FREE lease has no members, as a lease that opens (R107, R111). -/
theorem openLease (hleases : LeaseLaw s) (p : PortId) (term : Nat) : (openLease p term s).1.MembersLinked := by
  unfold Machine.openLease
  split
  · exact h
  split
  · exact h
  · rename_i k hk
    have hfree : (s.leaseAt k).state = .free := eq_of_beq ((lowest_eq_some _ _ _).mp hk).1
    obtain ⟨-, -, -, hstate⟩ := hleases k
    rw [hfree] at hstate
    obtain ⟨-, -, -, hmembers, -⟩ := hstate
    exact h.setLease hmembers.symm

theorem claimLease (p : PortId) (a : (Nat × Nat) × List Nat) : (claimLease p a s).1.MembersLinked := by
  unfold Machine.claimLease
  split
  · exact h
  split
  · exact h
  split
  · exact h
  split
  · exact h
  rename_i slots hslots
  split
  · exact h
  split
  · exact h
  rename_i hmine
  split
  · exact h
  · obtain ⟨-, hpublished⟩ := State.checkHandles_accepted hslots
    exact h.claimPoints hpublished fun i hi => by simpa using List.find?_eq_none.mp hmine i hi

theorem releaseRule (p : PortId) (a : (Nat × Nat) × List Nat) : (Machine.releaseLease p a s).1.MembersLinked := by
  unfold Machine.releaseLease
  split
  · exact h
  split
  · exact h
  · exact h.releaseFrom (releaseEntries_subset s _ _)

theorem renewLease (p : PortId) (hd : Nat × Nat) : (renewLease p hd s).1.MembersLinked := by
  unfold Machine.renewLease
  dsimp only
  split
  · exact h
  split
  · exact h
  · exact h.setLease rfl

theorem closeLeaseRule (p : PortId) (hd : Nat × Nat) : (closeLeaseRule p hd s).1.MembersLinked := by
  unfold Machine.closeLeaseRule
  split
  · exact h
  · exact h.releaseLease rfl

theorem revokeLease (p : PortId) (hd : Nat × Nat) : (revokeLease p hd s).1.MembersLinked := by
  unfold Machine.revokeLease
  split
  · exact h
  split
  · exact h
  · exact h.releaseLease rfl

/-! ## The requests on nodes, links and ports -/

theorem setAttention (p : PortId) (a : Nat × Nat) : (setAttention p a s).1.MembersLinked := by
  unfold Machine.setAttention
  split
  · exact h
  · exact h.setPort

theorem nameNode (p : PortId) (a : Nat × Text) : (nameNode p a s).1.MembersLinked := by
  unfold Machine.nameNode
  dsimp only
  repeat' split
  case isTrue.isFalse.isFalse.isFalse.isFalse => exact h.setNameMap.setNode
  all_goals exact h

theorem onNodeSlot {act : NodeSlot → State → State × Response} (hact : ∀ n, (act n s).1.MembersLinked) (p : PortId) (n : Nat) :
    (onNodeSlot act p n s).1.MembersLinked := by
  unfold Machine.onNodeSlot
  split
  · exact hact _
  · exact h

theorem rescanNode (n : NodeSlot) : (rescanNode n s).1.MembersLinked := by
  unfold Machine.rescanNode
  split
  · exact h.setNode
  · exact h

theorem includeNode (n : NodeSlot) : (includeNode n s).1.MembersLinked := by
  unfold Machine.includeNode
  split
  · exact h.setNode
  · exact h

theorem withdrawNode (n : NodeSlot) : (s.withdrawNode n).MembersLinked := by
  unfold State.withdrawNode
  split
  · exact h.retireNode n
  split
  · exact h.releaseReservations n
  · exact h

theorem excludeNode (n : NodeSlot) : (excludeNode n s).1.MembersLinked := by
  unfold Machine.excludeNode
  dsimp only
  split
  · exact h
  · exact (h.withdrawNode n).setNode

theorem forgetNode (n : NodeSlot) : (forgetNode n s).1.MembersLinked := by
  unfold Machine.forgetNode
  dsimp only
  split
  · exact h
  · exact (h.withdrawNode n).setNode

theorem onLinkNumber {act : LinkId → State → State × Response} (hact : ∀ l, (act l s).1.MembersLinked) (p : PortId) (n : Nat) :
    (onLinkNumber act p n s).1.MembersLinked := by
  unfold Machine.onLinkNumber
  split
  · exact hact _
  · exact h

theorem startLinkRule (l : LinkId) : (startLinkRule l s).1.MembersLinked := by
  unfold Machine.startLinkRule
  split
  · exact h
  · exact h
  · exact h.setLink.mapNodes.startCycle

theorem stopLinkRule (l : LinkId) : (stopLinkRule l s).1.MembersLinked := by
  unfold Machine.stopLinkRule
  split
  · exact h
  · exact h
  · exact h.setLink

theorem setLinkRule (p : PortId) (a : Nat × Byte × Nat × Nat × Nat × Nat × Nat × BitVec 16) :
    (setLinkRule p a s).1.MembersLinked := by
  unfold Machine.setLinkRule
  split
  · exact h
  split
  · exact h
  split
  · exact h
  split
  · exact h
  · exact h.setLink.loseNodes _ _

/-! ## Every command -/

/-- A grant keeps the lists when its rule does. -/
theorem grant {α : Type} {mine : Byte → Bool} {pol : Policy} {form : List Byte → Option α}
    {act : PortId → α → State → State × Response} (hact : ∀ p a, (act p a s).1.MembersLinked) :
    (s.grantOf mine pol form act).MembersLinked :=
  State.grantOf_keeps State.MembersLinked h (fun _ _ _ hu => hu.finishGrant) fun p a _ _ _ _ => hact p a

theorem attemptRetry {l : LinkId} {t : State} (hexec : execAttemptRetry l s = .next t) : t.MembersLinked := by
  cases hexec
  split
  · exact h
  split
  · exact h
  split
  · exact h
  · exact h.setLink.setNode

theorem answerReceived {l : LinkId} {frame : List Byte} {t : State} (hexec : execAnswerReceived l frame s = .next t) :
    t.MembersLinked := by
  cases hexec
  split
  · exact h
  split
  · exact h.completeCall _ _ _ _
  · exact h.attemptFails l

end

end State.MembersLinked

/-- Every command keeps the lease fields and the member lists naming each other (R109). -/
theorem exec_membersLinked {c : Instr} {s t : State} (hleases : LeaseLaw s) (h : s.MembersLinked) (hexec : exec c s = .next t) :
    t.MembersLinked := by
  cases c with
  | reset => cases hexec; exact .of_reset rfl rfl
  | resetEnd a b =>
    cases hexec
    split
    · exact h.congr rfl rfl
    · exact h
  | checkEnd passed =>
    cases hexec
    split
    · exact .of_reset rfl rfl
    · exact h
  | windowOpen p =>
    cases hexec
    split
    · exact h
    · exact h.setPort
  | windowClose p edge =>
    obtain rfl | ⟨u, a, b, rfl⟩ | ⟨r, rfl, -⟩ := execWindowClose_cases hexec
    · exact h
    · exact .of_reset rfl rfl
    · exact h.setPort
  | pollRequest | unknownRequest | lookup | listPoints | describePoint | pointSummary | listNodes | read | leaseInfo | deviceInfo
  | resetDevice => cases hexec; exact h.grant fun _ _ => h
  | nodeInfo => cases hexec; exact h.grant (h.onNodeSlot fun _ => h)
  | nameNode => cases hexec; exact h.grant h.nameNode
  | rescanNode => cases hexec; exact h.grant (h.onNodeSlot h.rescanNode)
  | excludeNode => cases hexec; exact h.grant (h.onNodeSlot h.excludeNode)
  | includeNode => cases hexec; exact h.grant (h.onNodeSlot h.includeNode)
  | forgetNode => cases hexec; exact h.grant (h.onNodeSlot h.forgetNode)
  | startLink => cases hexec; exact h.grant (h.onLinkNumber h.startLinkRule)
  | stopLink => cases hexec; exact h.grant (h.onLinkNumber h.stopLinkRule)
  | setLink => cases hexec; exact h.grant h.setLinkRule
  | linkStatus => cases hexec; exact h.grant (h.onLinkNumber fun _ => h)
  | write => cases hexec; exact h.grant h.writePoints
  | setSafe => cases hexec; exact h.grant h.setSafePoint
  | substitute => cases hexec; exact h.grant h.substitutePoint
  | unsubstitute => cases hexec; exact h.grant h.unsubstitutePoint
  | openLease => cases hexec; exact h.grant (h.openLease hleases)
  | claim => cases hexec; exact h.grant h.claimLease
  | release => cases hexec; exact h.grant h.releaseRule
  | renew => cases hexec; exact h.grant h.renewLease
  | closeLease => cases hexec; exact h.grant h.closeLeaseRule
  | revoke => cases hexec; exact h.grant h.revokeLease
  | watch => cases hexec; exact h.grant (h.entriesRequest fun p _ ht => ht.watchEntry p)
  | unwatch => cases hexec; exact h.grant (h.entriesRequest fun p _ ht => ht.unwatchEntry p)
  | ackChanges => cases hexec; exact h.grant (h.entriesRequest fun p _ ht => ht.ackEntry p)
  | setDeadband => cases hexec; exact h.grant h.setDeadband
  | nextChanges => cases hexec; exact h.grant fun _ _ => h.setPort
  | openSession => cases hexec; exact h.grant h.openSession
  | closeSession => cases hexec; exact h.grant fun p _ => h.closeSession p
  | setAttention => cases hexec; exact h.grant h.setAttention
  | leaseClockTick => cases hexec; exact h.clockTick
  | leaseExpiry index =>
    cases hexec
    split
    · split
      · exact h.clockTick
      · exact h
    · exact h
  | cycleTimerExpiry l =>
    cases hexec
    split
    · exact h.cycleExpiry l
    · exact h
  | callBuild l => cases hexec; exact h.callBuild l
  | attemptRetry l => exact h.attemptRetry hexec
  | answerReceived l frame => exact h.answerReceived hexec
  | replyTimeout l | answerTruncated l | framingFault l => cases hexec; exact h.attemptFails l
  | answerBadLength l n =>
    cases hexec
    split
    · exact h.attemptFails l
    · exact h
  | broadcastParkCompletion l =>
    cases hexec
    split
    · exact h.endStop l
    · exact h

/-! ## Single records -/

/-- What the laws of leases say of each lease record and of each point record alone. -/
structure State.LeaseRecordsLawful (s : State) : Prop where
  leases : LeaseLaw s
  points : ∀ i, (s.point i).membershipLawful

namespace State.LeaseRecordsLawful

theorem congr {s t : State} (h : s.LeaseRecordsLawful) (hpoints : t.points = s.points) (hleases : t.leases = s.leases) :
    t.LeaseRecordsLawful :=
  ⟨fun k => by simpa only [State.leaseAt, hleases] using h.leases k,
    fun i => by simpa only [State.point, hpoints] using h.points i⟩

theorem of_reset {t : State} (hpoints : t.points = State.reset.points) (hleases : t.leases = State.reset.leases) :
    t.LeaseRecordsLawful := by
  obtain ⟨-, -, -, -, -, hlease, hmembers, -⟩ := lawsHoldAtReset
  exact congr ⟨hlease, ((membersLaw_iff _).mp hmembers).2⟩ hpoints hleases

/-- Every run of changes takes each record through lawful steps. -/
theorem follows {s t : State} (h : s.LeaseRecordsLawful) (hf : Follows s t) : t.LeaseRecordsLawful :=
  ⟨hf.leases LeaseRecord.lawful (fun _ _ hstep => hstep.lawful) h.leases,
    hf.records PointRecord.membershipLawful (fun _ _ hstep => hstep.membershipLawful) h.points⟩

end State.LeaseRecordsLawful

theorem exec_leaseRecordsLawful {c : Instr} {s t : State} (h : s.LeaseRecordsLawful) (hexec : exec c s = .next t) :
    t.LeaseRecordsLawful := by
  cases c with
  | reset => cases hexec; exact .of_reset rfl rfl
  | resetEnd a b =>
    cases hexec
    split
    · exact h.congr rfl rfl
    · exact h
  | checkEnd passed =>
    cases hexec
    split
    · exact .of_reset rfl rfl
    · exact h
  | windowOpen p =>
    cases hexec
    split
    · exact h
    · exact h.congr (State.setPort_points _ _ _) (State.setPort_leases _ _ _)
  | windowClose p edge =>
    obtain rfl | ⟨u, a, b, rfl⟩ | ⟨r, rfl, -⟩ := execWindowClose_cases hexec
    · exact h
    · exact .of_reset rfl rfl
    · exact h.congr (State.setPort_points _ _ _) (State.setPort_leases _ _ _)
  | _ =>
    obtain hf | ⟨p, e, u, r, -, hf, rfl⟩ := exec_granted hexec nofun nofun nofun nofun nofun
    · exact h.follows hf
    · exact (h.follows hf).congr (State.finishGrant_points _ _ _) (State.finishGrant_leases _ _ _)

/-- Settles O58: each record goes through lawful steps, and the operations by which points join and leave leases change lease fields and member
lists together. -/
theorem stepKeepsLeaseLaws : Obligations.StepKeepsLeaseLaws := by
  intro s t hleases hmembers h
  obtain rfl | ⟨c, rest, hexec⟩ := step_next h
  · exact ⟨hleases, hmembers⟩
  obtain ⟨hlinked, hpoints⟩ := (membersLaw_iff s).mp hmembers
  have hrecords : (s.setPending rest).LeaseRecordsLawful := ⟨hleases, hpoints⟩
  have hafter := exec_leaseRecordsLawful hrecords hexec
  exact ⟨hafter.leases, (membersLaw_iff t).mpr ⟨exec_membersLinked hrecords.leases hlinked.setPending hexec, hafter.points⟩⟩

end Sys2Proof.Machine
end

section
/-! The lease requests but CLAIM and RELEASE (ch. 5): OPEN_LEASE, RENEW, CLOSE_LEASE, REVOKE and LEASE_INFO (R106, R111, R115, R117, R119 to R121,
R125). -/

namespace Sys2Proof.Machine

/-! ## OPEN_LEASE (R106, R111) -/

theorem nextSerial_eq (n : Nat) : nextSerial n = if n < 255 then n + 1 else 1 := by
  unfold nextSerial
  rw [← ite_not]
  simp only [not_le]

theorem State.freeLease_eq_some {s : State} {k : LeaseIndex} (hfree : (s.leaseAt k).state = .free)
    (hlower : ∀ j, j < k → (s.leaseAt j).state ≠ .free) : s.freeLease = some k :=
  (lowest_eq_some _ _ _).mpr ⟨beq_iff_eq.mpr hfree, fun j hj => beq_eq_false_iff_ne.mpr (hlower j hj)⟩

theorem State.freeLease_eq_none {s : State} (h : ∀ k, (s.leaseAt k).state ≠ .free) : s.freeLease = none :=
  (lowest_eq_none _ _).mpr fun k => beq_eq_false_iff_ne.mpr (h k)

/-- Settles O30: the term is in its range or not, and the lowest FREE record exists or not. -/
theorem openLeaseTakesTheLowestFree : Obligations.OpenLeaseTakesTheLowestFree := by
  intro s p a b hasks
  dsimp only
  have hends {t : State} {resp : Response} (h : openLease p (u16 a b) s = (t, resp)) :
      exec .openLease s = .next (t.finishGrant p resp) :=
    congrArg Host.Outcome.next (State.grant_eq_of_asks hasks rfl h)
  refine ⟨fun hterm => hends (if_pos hterm), fun hmin hmax hnone => hends ?_, fun hmin hmax k hfree hlower => hends ?_⟩
  · rw [openLease, if_neg (by omega), State.freeLease_eq_none hnone]
    rfl
  · rw [openLease, if_neg (by omega), State.freeLease_eq_some hfree hlower, ← nextSerial_eq]
    rfl

/-! ## RENEW (R115) -/

/-- Settles O33: the handle names no lease of the port, a LAPSED one, or a HELD one. -/
theorem renewRestartsTheTerm : Obligations.RenewRestartsTheTerm := by
  intro s p ix sn hasks
  have hends {t : State} {resp : Response} (h : renewLease p (ix.toNat, sn.toNat) s = (t, resp)) :
      exec .renew s = .next (t.finishGrant p resp) :=
    congrArg Host.Outcome.next (State.grant_eq_of_asks hasks rfl h)
  refine ⟨fun hnone => hends ?_, fun k hnames hholder => ?_⟩
  · rw [renewLease, State.leaseHeldBy_eq_none hnone]
    rfl
  have hlease := State.leaseHeldBy_eq_some.mpr ⟨hnames, hholder⟩
  refine ⟨fun hlapsed => hends ?_, fun hheld => hends ?_⟩
  · simp only [renewLease, hlease, hlapsed, if_true]
    rfl
  · simp only [renewLease, hlease, hheld, reduceCtorEq, if_false]
    rfl

/-! ## CLOSE_LEASE and REVOKE (R117, R119, R120, R121) -/

theorem State.leaseNamed_eq_none {s : State} {ix sn : Byte} (h : ∀ k, ¬s.namesLease ix sn k) :
    s.leaseNamed (ix.toNat, sn.toNat) = none :=
  Option.eq_none_iff_forall_ne_some.mpr fun k hk => h k (State.leaseNamed_eq_some.mp hk)

/-- Settles O34: the two requests find their lease as R108 says, and end it by the release of its members and the new record. -/
theorem closeAndRevokeReleaseMembers : Obligations.CloseAndRevokeReleaseMembers := by
  intro s p ix sn
  dsimp only
  refine ⟨fun hasks => ?_, fun hasks => ?_⟩
  · have hends {t : State} {resp : Response} (h : closeLeaseRule p (ix.toNat, sn.toNat) s = (t, resp)) :
        exec .closeLease s = .next (t.finishGrant p resp) :=
      congrArg Host.Outcome.next (State.grant_eq_of_asks hasks rfl h)
    refine ⟨fun hnone => hends ?_, fun k hnames hholder => hends ?_⟩
    · rw [closeLeaseRule, State.leaseHeldBy_eq_none hnone]
      rfl
    · rw [closeLeaseRule, State.leaseHeldBy_eq_some.mpr ⟨hnames, hholder⟩]
      rfl
  · have hends {t : State} {resp : Response} (h : revokeLease p (ix.toNat, sn.toNat) s = (t, resp)) :
        exec .revoke s = .next (t.finishGrant p resp) :=
      congrArg Host.Outcome.next (State.grant_eq_of_supervisorAsks hasks rfl h)
    refine ⟨fun hnone => hends ?_, fun k hnames => ?_⟩
    · rw [revokeLease, State.leaseNamed_eq_none hnone]
      rfl
    have hlease := State.leaseNamed_eq_some.mpr hnames
    refine ⟨fun hlapsed => hends ?_, fun hheld => hends ?_⟩
    · simp only [revokeLease, hlease, hlapsed, if_true]
      rfl
    · simp only [revokeLease, hlease, hheld, reduceCtorEq, if_false]
      rfl

/-! ## LEASE_INFO (R125) -/

theorem LeaseRecord.holderByte_eq {r : LeaseRecord} {q : PortId} (h : r.holder = some q) : r.holderByte = byte q.toNat := by
  unfold LeaseRecord.holderByte
  rw [h]
  rfl

/-- Settles O35: the checks of R125 one after another, and then the report of the lease. -/
theorem leaseInfoReports : Obligations.LeaseInfoReports := by
  intro s p ix sn first hasks
  dsimp only
  have hends {resp : Response} (h : leaseInfoAnswer p ((ix.toNat, sn.toNat), first.toNat) s = resp) :
      exec .leaseInfo s = .next (s.finishGrant p resp) :=
    congrArg Host.Outcome.next (State.grant_eq_of_asks (act := reading leaseInfoAnswer) hasks rfl (Prod.ext rfl h))
  refine ⟨fun hfirst => hends (if_pos hfirst), fun hfirst => ⟨fun hnone => hends ?_, fun k hnames => ?_⟩⟩
  · rw [leaseInfoAnswer, if_neg (Nat.not_lt.mpr hfirst), State.leaseNamed_eq_none hnone]
    rfl
  have hrule : leaseInfoAnswer p ((ix.toNat, sn.toNat), first.toNat) s =
      if (s.leaseAt k).holder ≠ some p ∧ s.isSupervisor p = false then answer .notPermitted
      else answerOk (s.leaseInfoFields (s.leaseAt k) first.toNat) := by
    rw [leaseInfoAnswer, if_neg (Nat.not_lt.mpr hfirst), State.leaseNamed_eq_some.mpr hnames]
  refine ⟨fun hother hoperator => hends (hrule.trans (if_pos ⟨hother, hoperator⟩)), fun q hholder hmay => hends ?_⟩
  have hpermitted : ¬((s.leaseAt k).holder ≠ some p ∧ s.isSupervisor p = false) := by
    rintro ⟨hother, hoperator⟩
    obtain rfl | hrole := hmay
    · exact hother hholder
    · rw [hoperator] at hrole; cases hrole
  rw [hrule, if_neg hpermitted]
  unfold State.leaseInfoFields
  rw [LeaseRecord.holderByte_eq hholder, byte_of_toNat]
  rfl

end Sys2Proof.Machine
end

section
/-! CLAIM (R112, R113) and RELEASE (R117, R118). -/

namespace Sys2Proof.Machine

theorem formLeaseHandles_countedHandles {ix sn : Byte} {hs : List Nat} (h : ∀ hd ∈ hs, hd < 65536) (hlen : hs.length < 256) :
    formLeaseHandles (ix :: sn :: countedHandles hs) = some ((ix.toNat, sn.toNat), hs) := by
  unfold formLeaseHandles
  dsimp only
  rw [formHandles_countedHandles h hlen, Option.map_some]

/-! ## CLAIM (R112, R113) -/

theorem PointRecord.heldElsewhere_iff (r : PointRecord) (k : LeaseIndex) :
    r.heldElsewhere k = true ↔ ¬(r.lease = none ∨ r.lease = some k) := by
  simp [PointRecord.heldElsewhere, not_or]

section
variable {s : State} {p : PortId} {h : Nat × Nat} {k : LeaseIndex} {hs : List Nat} {slots : List DirSlot}
  (hcount : countIn 8 hs.length = true) (hlease : s.leaseHeldBy p h = some k) (hheld : (s.leaseAt k).state ≠ .lapsed)
  (hslots : s.checkHandles hs = .accepted slots)
include hcount hlease hheld hslots

theorem claimLease_of_inp (hdir : ¬∀ i ∈ slots, (s.point i).direction = .out) :
    claimLease p (h, hs) s = (s, answer .wrongDirection) := by
  simp only [claimLease, hcount, hlease, hheld, hslots, (s.any_inp_iff slots).mpr hdir, Bool.true_eq_false, if_false, if_true]

/-- The first point that is held elsewhere answers the CLAIM (R112). -/
theorem claimLease_of_elsewhere (hdir : ∀ i ∈ slots, (s.point i).direction = .out) {i : DirSlot}
    (hfind : (slots.find? fun i => (s.point i).heldElsewhere k) = some i) :
    claimLease p (h, hs) s = (s, s.heldElsewhere i) := by
  simp only [claimLease, hcount, hlease, hheld, hslots, mt (s.any_inp_iff slots).mp (not_not_intro hdir), hfind,
    Bool.true_eq_false, Bool.false_eq_true, if_false]

/-- Points that are OUT points and held by no other lease join it, if it has room (R112, R113). -/
theorem claimLease_of_mine (hdir : ∀ i ∈ slots, (s.point i).direction = .out)
    (hmine : ∀ i ∈ slots, (s.point i).lease = none ∨ (s.point i).lease = some k) :
    claimLease p (h, hs) s =
      if 32 < (joined (s.leaseAt k).members slots).length then (s, answer .leaseFull) else (s.claimPoints k slots, answer .ok) := by
  have hfind : (slots.find? fun i => (s.point i).heldElsewhere k) = none :=
    List.find?_eq_none.mpr fun i hi helse => (PointRecord.heldElsewhere_iff _ _).mp helse (hmine i hi)
  simp only [claimLease, hcount, hlease, hheld, hslots, mt (s.any_inp_iff slots).mp (not_not_intro hdir), hfind,
    Bool.true_eq_false, Bool.false_eq_true, if_false]
  rfl

end

/-- The answer to a CLAIM of a point that another lease holds (R112). -/
theorem State.heldElsewhere_eq {s : State} {i : DirSlot} {k : LeaseIndex} {q : PortId} (hlease : (s.point i).lease = some k)
    (hholder : (s.leaseAt k).holder = some q) :
    s.heldElsewhere i = ⟨.heldElsewhere, le16 (i.val + 512 * (s.point i).generation) ++ [byte q.toNat]⟩ := by
  unfold State.heldElsewhere
  simp only [hlease, LeaseRecord.holderByte_eq hholder]
  rfl

/-- Settles O31: the six checks of R112 one after another, of which each answers the request, and then the points join. -/
theorem claimChecksAndJoins : Obligations.ClaimChecksAndJoins := by
  intro s p ix sn hs hbound hlen hasks
  dsimp only
  have hends {t : State} {resp : Response} (h : claimLease p ((ix.toNat, sn.toNat), hs) s = (t, resp)) :
      exec .claim s = .next (t.finishGrant p resp) :=
    congrArg Host.Outcome.next (State.grant_eq_of_asks hasks (formLeaseHandles_countedHandles hbound hlen) h)
  refine ⟨fun hout => hends (if_pos ((countIn_eq_false_iff _ _).mpr hout)), fun hmin hmax => ?_⟩
  have hcount : countIn 8 hs.length = true := (countIn_iff _ _).mpr ⟨hmin, hmax⟩
  refine ⟨fun hnone => hends ?_, fun k hnames hholder => ?_⟩
  · simp only [claimLease, hcount, State.leaseHeldBy_eq_none hnone, Bool.true_eq_false, if_false]
    rfl
  have hlease := State.leaseHeldBy_eq_some.mpr ⟨hnames, hholder⟩
  refine ⟨fun hlapsed => hends ?_, fun hheld => ⟨fun good bad rest e hsplit hgood hbad => hends ?_, fun pts hpts => ?_⟩⟩
  · simp only [claimLease, hcount, hlease, hlapsed, Bool.true_eq_false, if_false, if_true]
    rfl
  · have hrefused : s.checkHandles hs = .refused e := hsplit ▸ State.checkHandles_of_refused hgood hbad
    simp only [claimLease, hcount, hlease, hheld, hrefused, Bool.true_eq_false, if_false]
    rfl
  have hslots := State.checkHandles_of_accepted hpts
  rw [← joined_eq]
  refine ⟨fun hdir => hends (claimLease_of_inp hcount hlease hheld hslots hdir),
    fun hdir before i after k' q hsplit hbefore hother hne hq => hends ?_, fun hdir hmine hfull => hends ?_,
    fun hdir hmine hroom => hends ?_⟩
  · have helse : (s.point i).heldElsewhere k = true :=
      (PointRecord.heldElsewhere_iff _ _).mpr (by rw [hother]; simpa using hne)
    have hfind : (pts.find? fun i => (s.point i).heldElsewhere k) = some i :=
      List.find?_eq_some_iff_append.mpr ⟨helse, before, after, hsplit, fun j hj => by
        rw [Bool.not_eq_true', Bool.eq_false_iff]
        exact fun hj' => (PointRecord.heldElsewhere_iff _ _).mp hj' (hbefore j hj)⟩
    rw [claimLease_of_elsewhere hcount hlease hheld hslots hdir hfind, State.heldElsewhere_eq hother hq]
  · rw [claimLease_of_mine hcount hlease hheld hslots hdir hmine, if_pos hfull]
    rfl
  · rw [claimLease_of_mine hcount hlease hheld hslots hdir hmine, if_neg (Nat.not_lt.mpr hroom)]
    rfl

/-! ## RELEASE (R117, R118) -/

/-- A handle is accepted and names the point (R5). -/
def State.accepts (s : State) (h : Nat) (i : DirSlot) : Bool := s.checkHandle false h == .accepted i

/-- The result of an entry of RELEASE on what is left of the member list (R118). -/
def State.releaseResult (s : State) (left : List DirSlot) (h : Nat) : Result :=
  match s.checkHandle false h with
  | .refused e => e
  | .accepted i => if left.contains i then .ok else .notHeld

section
variable (s : State) (left : List DirSlot) (h : Nat) (rest : List Nat)

/-- The members left after an entry that is refused are all of them. -/
theorem State.left_of_refused {e : Result} (hrefused : s.checkHandle false h = .refused e) :
    (left.filter fun i => !s.accepts h i) = left :=
  List.filter_eq_self.mpr fun i _ => by rw [State.accepts, hrefused]; rfl

/-- The members left after an accepted entry are all but the point it names. -/
theorem State.left_of_accepted {i : DirSlot} (haccepted : s.checkHandle false h = .accepted i) :
    (left.filter fun j => !s.accepts h j) = left.filter fun j => j != i := by
  refine List.filter_congr fun j _ => congrArg (!·) ?_
  rw [State.accepts, haccepted, Bool.eq_iff_iff, beq_iff_eq, beq_iff_eq, HandleCheck.accepted.injEq]
  exact eq_comm

/-- The first entry is judged on the member list, and the others on what it leaves of the list. -/
theorem releaseEntries_results_cons :
    (releaseEntries s left (h :: rest)).1 =
      s.releaseResult left h :: (releaseEntries s (left.filter fun i => !s.accepts h i) rest).1 := by
  rw [releaseEntries]
  unfold State.releaseResult
  cases hcheck : s.checkHandle false h with
  | refused e => simp only [s.left_of_refused left h hcheck]
  | accepted i =>
    rw [s.left_of_accepted left h hcheck]
    by_cases hi : left.contains i = true
    · simp only [hi, if_true]
    · have hall : (left.filter fun j => j != i) = left :=
        List.filter_eq_self.mpr fun j hj => bne_iff_ne.mpr fun hji => hi (List.contains_iff_mem.mpr (hji ▸ hj))
      simp only [hi, hall, if_false, Bool.false_eq_true]

theorem mem_releaseEntries_cons (j : DirSlot) :
    j ∈ (releaseEntries s left (h :: rest)).2 ↔
      (j ∈ left ∧ s.accepts h j = true) ∨ j ∈ (releaseEntries s (left.filter fun i => !s.accepts h i) rest).2 := by
  rw [releaseEntries]
  cases hcheck : s.checkHandle false h with
  | refused e =>
    have hnone : s.accepts h j = false := by rw [State.accepts, hcheck]; rfl
    simp only [s.left_of_refused left h hcheck, hnone, Bool.false_eq_true, and_false, false_or]
  | accepted i =>
    have hnamed : s.accepts h j = true ↔ j = i := by
      rw [State.accepts, hcheck, beq_iff_eq, HandleCheck.accepted.injEq, eq_comm]
    rw [s.left_of_accepted left h hcheck, hnamed]
    by_cases hi : left.contains i = true
    · have hmem := List.contains_iff_mem.mp hi
      simp only [hi, if_true, List.mem_cons]
      exact or_congr_left ⟨fun hj => ⟨hj ▸ hmem, hj⟩, fun hj => hj.2⟩
    · have hmem : i ∉ left := fun hmem => hi (List.contains_iff_mem.mpr hmem)
      have hall : (left.filter fun j => j != i) = left :=
        List.filter_eq_self.mpr fun j hj => bne_iff_ne.mpr fun hji => hmem (hji ▸ hj)
      simp only [hi, hall, if_false, Bool.false_eq_true]
      exact ⟨.inr, fun hj => hj.resolve_left fun ⟨hl, hji⟩ => hmem (hji ▸ hl)⟩

end

/-- Each entry is judged on the members that no earlier entry named (R118). -/
theorem releaseEntries_results (s : State) (left : List DirSlot) (hs : List Nat) :
    (releaseEntries s left hs).1 =
      hs.mapIdx fun j h => s.releaseResult (left.filter fun i => !(hs.take j).any fun h => s.accepts h i) h := by
  induction hs generalizing left with
  | nil => rfl
  | cons h rest ih =>
    rw [releaseEntries_results_cons, ih, List.mapIdx_cons]
    simp [List.filter_filter, Bool.and_comm]

/-- The members that are released are those that some entry names (R118). -/
theorem mem_releaseEntries (s : State) (left : List DirSlot) (hs : List Nat) (j : DirSlot) :
    j ∈ (releaseEntries s left hs).2 ↔ j ∈ left ∧ (hs.any fun h => s.accepts h j) = true := by
  induction hs generalizing left with
  | nil => simp [releaseEntries]
  | cons h rest ih =>
    rw [mem_releaseEntries_cons, ih, List.mem_filter, List.any_cons]
    cases s.accepts h j <;> simp

/-- Settles O32: the entries are judged in turn, and the release of the members they name is one event. -/
theorem releaseLetsMembersGo : Obligations.ReleaseLetsMembersGo := by
  intro s p ix sn hs hbound hlen hasks
  dsimp only
  have hends {t : State} {resp : Response} (h : releaseLease p ((ix.toNat, sn.toNat), hs) s = (t, resp)) :
      exec .release s = .next (t.finishGrant p resp) :=
    congrArg Host.Outcome.next (State.grant_eq_of_asks hasks (formLeaseHandles_countedHandles hbound hlen) h)
  refine ⟨fun hout => hends (if_pos ((countIn_eq_false_iff _ _).mpr hout)), fun hmin hmax => ?_⟩
  have hcount : countIn 8 hs.length = true := (countIn_iff _ _).mpr ⟨hmin, hmax⟩
  refine ⟨fun hnone => hends ?_, fun k hnames hholder => hends ?_⟩
  · simp only [releaseLease, hcount, State.leaseHeldBy_eq_none hnone, Bool.true_eq_false, if_false]
    rfl
  have hlease := State.leaseHeldBy_eq_some.mpr ⟨hnames, hholder⟩
  have hgone (i : DirSlot) : (releaseEntries s (s.leaseAt k).members hs).2.contains i =
      ((s.leaseAt k).members.contains i && hs.any fun h => s.accepts h i) := by
    rw [Bool.eq_iff_iff, Bool.and_eq_true, List.contains_iff_mem, List.contains_iff_mem, mem_releaseEntries]
  have hresults : (releaseEntries s (s.leaseAt k).members hs).1 = hs.mapIdx fun j h =>
      match s.checkHandle false h with
      | .refused e => e
      | .accepted i =>
        if (s.leaseAt k).members.contains i && !(hs.take j).any fun h => s.checkHandle false h == .accepted i then .ok
        else .notHeld := by
    rw [releaseEntries_results]
    refine congrArg (hs.mapIdx ·) (funext fun j => funext fun h => ?_)
    unfold State.releaseResult
    cases s.checkHandle false h with
    | refused e => rfl
    | accepted i =>
      exact if_congr (by simp [State.accepts]) rfl rfl
  simp only [releaseLease, hcount, hlease, Bool.true_eq_false, if_false]
  refine Prod.ext ?_ ?_
  · unfold State.releaseFrom State.releaseMembers
    simp only [hgone]
    refine congrArg (State.setLease _ k) (congrArg (fun members => { s.leaseAt k with members := members }) ?_)
    refine List.filter_congr fun i hi => ?_
    rw [List.contains_iff_mem.mpr hi, Bool.true_and]
    rfl
  · unfold entryResults
    rw [hresults, List.length_mapIdx]
    rfl

end Sys2Proof.Machine
end

section
/-! Reportable changes (R126 to R129): when the changes of one event to a record are reportable, and what a reportable change does. -/

namespace Sys2Proof.Machine

/-! ## When a change is reportable (R126, R127) -/

/-- The distance of two values is that of the integers their kind reads them as (R127). -/
theorem valueDistance_eq (k : Kind) (a b : Word32) : (valueDistance k a b : Int) = |readAs k a - readAs k b| := by
  unfold valueDistance readAs
  cases k with
  | signed => exact Int.natCast_natAbs _
  | pad | flag | bits | unsigned => exact Int.natCast_natAbs _

theorem deadbandPasses_iff (r : PointRecord) :
    deadbandPasses r = true ↔
      r.kind = .flag ∨ r.kind = .bits ∨ r.deadband = 0 ∨
        (r.deadband : Int) ≤ |readAs r.kind r.value - readAs r.kind r.markRef| := by
  simp only [deadbandPasses, Bool.or_eq_true, beq_iff_eq, decide_eq_true_eq, or_assoc, ← valueDistance_eq, Int.ofNat_le]

/-- The changes of a record that are reportable: of either direction, of an OUT record, and of an IN record. -/
theorem reportable_iff (before after : PointRecord) :
    reportable before after = true ↔
      after.quality ≠ before.quality ∨ after.state ≠ before.state ∨
        (after.direction = .out ∧
          (after.lease ≠ before.lease ∨ after.demand ≠ before.demand ∨ after.applied ≠ before.applied)) ∨
        (after.direction = .inp ∧
          ((after.value ≠ before.value ∧ (deadbandPasses after = true ∨ after.substPort ≠ none)) ∨
            after.substPort ≠ before.substPort)) := by
  unfold reportable
  cases after.direction with
  | out => simp [or_assoc]
  | inp => simp [or_assoc, Option.isSome_iff_ne_none]

/-! ## What a reportable change does (R128) -/

theorem report_of_reportable {before after : PointRecord} (h : reportable before after = true) :
    report before after = noteChange before after := if_pos h

theorem report_of_not_reportable {before after : PointRecord} (h : ¬reportable before after = true) :
    report before after = after := if_neg h

/-- Settles O36: an event reports each record on its own, and its update of the records keeps the marked counts. -/
theorem eventReportsOnce : Obligations.EventReportsOnce := by
  intro s f
  refine ⟨fun i => ?_, fun p hcount => ⟨s.updatePoints_marks _ p hcount, s.updatePoints_marks _ p hcount⟩⟩
  intro before after moved passes isReportable
  have hreportable : isReportable ↔ reportable before after = true := by
    rw [reportable_iff, deadbandPasses_iff]
  rw [hreportable, State.event_point]
  refine ⟨fun h => ?_, report_of_not_reportable⟩
  rw [report_of_reportable h]
  exact ⟨rfl, fun hinp hmoved hstate => if_pos ⟨hinp, hmoved, hstate⟩, fun hstays => if_neg hstays⟩

end Sys2Proof.Machine
end

section
/-! The watch requests (ch. 6): WATCH, UNWATCH, SET_DEADBAND, NEXT_CHANGES and ACK_CHANGES (R17, R18, R131 to R138). -/

namespace Sys2Proof.Machine

/-! ## Requests whose entries are taken in turn -/

section
variable {α : Type}

theorem foldl_eq_eachEntry (entry : State → α → State × Result) (s : State) (done : List Result) (as : List α) :
    as.foldl (fun acc a => ((entry acc.1 a).1, acc.2 ++ [(entry acc.1 a).2])) (s, done) =
      ((eachEntry entry s as).1, done ++ (eachEntry entry s as).2) := by
  induction as generalizing s done with
  | nil => simp [eachEntry]
  | cons a rest ih => rw [List.foldl_cons, ih, List.append_assoc]; rfl

theorem takenInTurn_eq_eachEntry (entry : State → α → State × Result) (s : State) (as : List α) :
    takenInTurn entry s as = eachEntry entry s as :=
  foldl_eq_eachEntry entry s [] as

theorem eachEntry_results_length (entry : State → α → State × Result) (s : State) (as : List α) :
    (eachEntry entry s as).2.length = as.length := by
  induction as generalizing s with
  | nil => rfl
  | cons a rest ih => exact congrArg (· + 1) (ih _)

variable {s : State} {p : PortId} {code : Byte} {params : List Byte} {form : List Byte → Option (List α)} {as : List α}
  {act : PortId → State → α → State × Result} {entry : State → α → State × Result}

/-- A request with 1 to 8 entries takes them in turn, each as its rule says; one with none or with more is refused. -/
theorem State.grant_entriesRequest (hasks : s.asks p code params) (hform : form params = some as) (hentry : act p = entry) :
    (as.length = 0 ∨ 8 < as.length →
      Host.Outcome.next (s.grant code anyPort form (entriesRequest act)) =
        (.next (s.finishGrant p ⟨.badRequest, []⟩) : Host.Outcome State Fault Refusal)) ∧
    (1 ≤ as.length → as.length ≤ 8 →
      Host.Outcome.next (s.grant code anyPort form (entriesRequest act)) =
        (.next ((takenInTurn entry s as).1.finishGrant p
          ⟨.ok, byte as.length :: (takenInTurn entry s as).2.map Result.code⟩) : Host.Outcome State Fault Refusal)) := by
  refine ⟨fun hcount => ?_, fun hmin hmax => ?_⟩
  · exact congrArg _ (State.grant_eq_of_asks hasks hform (if_pos ((countIn_eq_false_iff _ _).mpr hcount)))
  · have hcount : ¬countIn 8 as.length = false := by simp [(countIn_iff 8 as.length).mpr ⟨hmin, hmax⟩]
    rw [takenInTurn_eq_eachEntry, ← hentry, State.grant_eq_of_asks hasks hform (if_neg hcount), entryResults,
      eachEntry_results_length]
    rfl

end

theorem revisionsIn_flatMap {acks : List (Nat × BitVec 16)} (h : ∀ e ∈ acks, e.1 < 65536) :
    revisionsIn (acks.flatMap fun e => le16 e.1 ++ le16 e.2.toNat) = acks := by
  induction acks with
  | nil => rfl
  | cons e rest ih =>
    obtain ⟨he, hrest⟩ := List.forall_mem_cons.mp h
    have hrevision : BitVec.ofNat 16 (u16 (BitVec.ofNat 8 e.2.toNat) (BitVec.ofNat 8 (e.2.toNat / 256))) = e.2 := by
      rw [u16_of_le16 e.2.isLt, BitVec.ofNat_toNat, BitVec.setWidth_eq]
    exact congrArg₂ List.cons (Prod.ext (u16_of_le16 he) hrevision) (ih hrest)

theorem formRevisions_countedRevisions {acks : List (Nat × BitVec 16)} (h : ∀ e ∈ acks, e.1 < 65536)
    (hlen : acks.length < 256) : formRevisions (countedRevisions acks) = some acks := by
  unfold formRevisions countedRevisions
  rw [formCount_flatMap (bytes := fun e => le16 e.1 ++ le16 e.2.toNat) hlen fun _ => rfl, Option.map_some,
    revisionsIn_flatMap h]

/-! ## WATCH and UNWATCH (R131, R132) -/

/-- Settles O37: both requests take their entries in turn, and one entry of each is what R131 and R132 say. -/
theorem watchAndUnwatchInTurn : Obligations.WatchAndUnwatchInTurn := by
  intro s p hs hbound hlen watchOne unwatchOne
  have hform := formHandles_countedHandles hbound hlen
  have hwatch : watchEntry p = watchOne := funext fun u => funext fun h => by
    unfold watchEntry watchOne
    cases u.checkHandle false h <;> rfl
  have hunwatch : unwatchEntry p = unwatchOne := funext fun u => funext fun h => by
    unfold unwatchEntry unwatchOne
    cases u.checkHandle true h <;> rfl
  exact ⟨fun hasks => State.grant_entriesRequest hasks hform hwatch,
    fun hasks => State.grant_entriesRequest hasks hform hunwatch⟩

/-! ## SET_DEADBAND (R133) -/

/-- An update of one record that keeps its marks replaces that record and nothing else (R129). -/
theorem State.updatePoint_of_mark {s : State} {i : DirSlot} {f : PointRecord → PointRecord}
    (hmark : (f (s.point i)).mark = (s.point i).mark) :
    s.updatePoint i f = { s with points := s.points.set i (f (s.point i)) } := by
  have htable : tabMap (fun j r => if j = i then f r else r) s.points = s.points.set i (f (s.point i)) :=
    table_ext fun j => by
      rw [tabMap_get]
      split
      · rename_i hj; subst hj; simp [State.point]
      · rename_i hj
        have hne : (i : Nat) ≠ j := fun h => hj (Fin.ext h.symm)
        simp [hne]
  unfold State.updatePoint
  rw [State.updatePoints_of_marks fun j => ?_, htable]
  split
  · rename_i hj; rw [hj]; exact hmark
  · rfl

/-- Settles O38: the checks of R133 one after another, and the update of the one record, which keeps its marks. -/
theorem setDeadbandRestartsTheReference : Obligations.SetDeadbandRestartsTheReference := by
  intro s p a b c d hasks
  have hends {t : State} {res : Result} (h : setDeadband p (u16 a b, u16 c d) s = (t, answer res)) :
      exec .setDeadband s = .next (t.finishGrant p ⟨res, []⟩) :=
    congrArg Host.Outcome.next (State.grant_eq_of_asks hasks rfl h)
  refine ⟨fun e he => hends ?_, fun i hi => ?_⟩
  · simp only [setDeadband, he]
  intro r
  have hrule : setDeadband p (u16 a b, u16 c d) s =
      if r.direction = .out then (s, answer .wrongDirection)
      else if r.kind = .flag ∨ r.kind = .bits then (s, answer .badRequest)
      else ({ s with points := s.points.set i { r with deadband := u16 c d, markRef := r.value } }, answer .ok) := by
    simp only [setDeadband, hi]
    rw [State.updatePoint_of_mark rfl]
  refine ⟨fun hout => hends ?_, fun hinp hkind => hends ?_, fun hinp hflag hbits => hends ?_⟩
  · rw [hrule, if_pos hout]
  · rw [hrule, if_neg (by simp [hinp]), if_pos hkind]
  · rw [hrule, if_neg (by simp [hinp]), if_neg (not_or.mpr ⟨hflag, hbits⟩)]

/-! ## NEXT_CHANGES (R134, R135) -/

/-- The records of a scan are those of the slots in scan order. -/
theorem State.scanOrder_eq (s : State) (cursor : DirSlot) :
    s.scanOrder cursor =
      ((List.finRange 512).drop cursor.val ++ (List.finRange 512).take cursor.val).map fun i => (i, s.point i) := by
  unfold State.scanOrder
  rw [entries_eq, List.map_append, List.map_drop, List.map_take]
  rfl

theorem State.nextMarked_eq (s : State) (p : PortId) :
    s.nextMarked p =
      ((((List.finRange 512).drop (s.port p).scanCursor.val ++ (List.finRange 512).take (s.port p).scanCursor.val).filter
        fun i => (s.point i).mark.has p).take 5).map fun i => (i, s.point i) := by
  unfold State.nextMarked
  rw [State.scanOrder_eq, List.filter_map, List.map_take]
  rfl

/-- The cursor moves one past the last record reported, and stays where none is (R134). -/
theorem cursorAfter_eq (s : State) (old : DirSlot) (chosen : List DirSlot) :
    cursorAfter old (chosen.map fun i => (i, s.point i)) =
      match chosen.getLast? with
      | some i => i + 1
      | none => old := by
  unfold cursorAfter
  rw [List.getLast?_map]
  cases chosen.getLast? with
  | none => rfl
  | some i => exact Fin.ext (by simp [Fin.val_add])

/-- The entry of a record: value and no indicator of an IN record, applied and its absence of an OUT record (R135). -/
theorem changeEntry_eq (i : DirSlot) (r : PointRecord) :
    changeEntry (i, r) =
      le16 (i.val + 512 * r.generation) ++ [r.state.code] ++
        (if r.direction = .inp then le32 r.value ++ [0] else le32 (r.applied.getD 0) ++ [if r.applied = none then 1 else 0]) ++
        [r.quality.code] ++ le16 r.revision.toNat := by
  unfold changeEntry changeValue absentIndicator
  cases r.direction with
  | inp => rfl
  | out => cases r.applied <;> rfl

/-- Settles O39: the records reported are those of the slots chosen, and their last slot moves the cursor. -/
theorem nextChangesScansFromTheCursor : Obligations.NextChangesScansFromTheCursor := by
  intro s p hasks r order chosen entry cursor
  have hmarked : s.nextMarked p = chosen.map fun i => (i, s.point i) := s.nextMarked_eq p
  have hcursor : cursorAfter r.scanCursor (chosen.map fun i => (i, s.point i)) = cursor := cursorAfter_eq s _ chosen
  have hentries : (chosen.map fun i => (i, s.point i)).flatMap changeEntry = chosen.flatMap entry := by
    rw [List.flatMap_map]
    exact congrArg (chosen.flatMap ·) (funext fun i => changeEntry_eq i (s.point i))
  have hrule : nextChanges p () s =
      (s.setPort p { r with scanCursor := cursor },
        ⟨.ok, le16 r.markedCount ++ byte chosen.length :: chosen.flatMap entry⟩) := by
    unfold nextChanges
    dsimp only
    rw [hmarked, hcursor, hentries, List.length_map]
    rfl
  exact congrArg Host.Outcome.next (State.grant_eq_of_asks hasks rfl hrule)

/-! ## ACK_CHANGES (R136, R138) -/

/-- What the acknowledgement of a mark that stands does to a record (R17, R18, R136). -/
theorem PointRecord.acknowledgedBy_eq {r : PointRecord} {p : PortId} (hmark : r.mark.has p = true) :
    r.acknowledgedBy p =
      if r.state ≠ .retired then { r with mark := r.mark.drop p }
      else if (r.mark.drop p).isEmpty = true then { PointRecord.reset with generation := r.generation }
      else { r with watch := r.watch.drop p, mark := r.mark.drop p } := by
  unfold PointRecord.acknowledgedBy PointRecord.dropWatcher
  by_cases hretired : r.state = .retired
  · simp only [hretired, hmark, true_and, not_true_eq_false, ne_eq, if_true, if_false]
    rfl
  · simp only [hretired, not_false_eq_true, ne_eq, if_true, if_false]

/-- Settles O40: the pairs are taken in turn, and one pair is what R136 says of the record its handle names. -/
theorem ackChangesInTurn : Obligations.AckChangesInTurn := by
  intro s p acks hbound hlen hasks ackOne
  have hack : ackEntry p = ackOne := funext fun u => funext fun e => by
    unfold ackEntry ackOne
    cases u.checkHandle true e.1 with
    | refused res => rfl
    | accepted i =>
      by_cases hnone : (u.point i).mark.has p = false
      · simp only [hnone, if_true]
      by_cases hrevision : (u.point i).revision = e.2
      · simp only [hnone, hrevision, ne_eq, not_true_eq_false, if_true, if_false]
        refine congrArg (·, Result.ok) (State.updatePoints_congr fun j => ?_)
        by_cases hj : j = i
        · subst hj
          simp only [if_true]
          exact PointRecord.acknowledgedBy_eq (Bool.not_eq_false _ ▸ hnone)
        · simp only [hj, if_false]
      · simp only [hnone, hrevision, ne_eq, not_false_eq_true, if_true, if_false]
  exact State.grant_entriesRequest hasks (formRevisions_countedRevisions hbound hlen) hack

end Sys2Proof.Machine
end

section
/-! What the commands leave of the host ports, the device state and the roles (R144, R152, R155, R160 to R162): every command but a reset, the
ends of a reset and of the check, and the windows touches one slot at the most. -/

namespace Sys2Proof.Machine

/-! ## What a run of changes leaves -/

/-- The slots, the windows, the notices, the device state and the roles stay, and so do the grant pointer and the queue. -/
structure State.KeepsPorts (s t : State) : Prop where
  slots : ∀ p, (t.port p).slots = (s.port p).slots
  window : ∀ p, (t.port p).window = (s.port p).window
  frameError : ∀ p, (t.port p).frameError = (s.port p).frameError
  overrun : ∀ p, (t.port p).overrun = (s.port p).overrun
  device : t.device = s.device
  supervisors : t.supervisors = s.supervisors
  supsel1 : t.supsel1 = s.supsel1
  supsel0 : t.supsel0 = s.supsel0
  grantPointer : t.grantPointer = s.grantPointer
  pending : t.pending = s.pending

theorem State.KeepsPorts.refl (s : State) : s.KeepsPorts s := by constructor <;> intros <;> rfl

theorem State.KeepsPorts.trans {s t u : State} (h : s.KeepsPorts t) (h' : t.KeepsPorts u) : s.KeepsPorts u where
  slots p := (h'.slots p).trans (h.slots p)
  window p := (h'.window p).trans (h.window p)
  frameError p := (h'.frameError p).trans (h.frameError p)
  overrun p := (h'.overrun p).trans (h.overrun p)
  device := h'.device.trans h.device
  supervisors := h'.supervisors.trans h.supervisors
  supsel1 := h'.supsel1.trans h.supsel1
  supsel0 := h'.supsel0.trans h.supsel0
  grantPointer := h'.grantPointer.trans h.grantPointer
  pending := h'.pending.trans h.pending

/-- A port's record whose slots, window and notices are those of before. -/
theorem State.KeepsPorts.setPort {s : State} {p : PortId} {r : PortRecord} (hslots : r.slots = (s.port p).slots)
    (hwindow : r.window = (s.port p).window) (hframe : r.frameError = (s.port p).frameError)
    (hoverrun : r.overrun = (s.port p).overrun) : s.KeepsPorts (s.setPort p r) := by
  have hport {β : Type} (field : PortRecord → β) (h : field r = field (s.port p)) (q : PortId) :
      field ((s.setPort p r).port q) = field (s.port q) := by
    rw [State.setPort_port]
    split
    · rename_i hq; rw [hq, h]
    · rfl
  exact ⟨hport PortRecord.slots hslots, hport PortRecord.window hwindow, hport PortRecord.frameError hframe,
    hport PortRecord.overrun hoverrun, s.setPort_device p r, s.setPort_supervisors p r, s.setPort_supsel1 p r,
    s.setPort_supsel0 p r, s.setPort_grantPointer p r, s.setPort_pending p r⟩

theorem Change.keepsPorts {s t : State} (h : Change s t) : s.KeepsPorts t := by
  cases h with
  | session p r hr =>
    obtain ⟨hslots, hwindow, hframe, hoverrun⟩ := hr
    exact .setPort hslots hwindow hframe hoverrun
  | points g =>
    exact ⟨s.updatePoints_port_slots g, s.updatePoints_port_window g, s.updatePoints_port_frameError g,
      s.updatePoints_port_overrun g, rfl, rfl, rfl, rfl, rfl, rfl⟩
  | _ => constructor <;> simp

theorem Follows.keepsPorts {s t : State} (h : Follows s t) : s.KeepsPorts t :=
  h.keeps s.KeepsPorts (fun _ _ hc hs => hs.trans hc.keepsPorts) (.refl s)

/-- Every command but a reset, the ends of a reset and of the check, and the windows leaves the ports alone, or answers one slot of a part that
serves. -/
theorem exec_keepsPorts {c : Instr} {s t : State} (h : exec c s = .next t) (h1 : c ≠ .reset) (h2 : ∀ a b, c ≠ .resetEnd a b)
    (h3 : ∀ b, c ≠ .checkEnd b) (h4 : ∀ p, c ≠ .windowOpen p) (h5 : ∀ p e, c ≠ .windowClose p e) :
    s.KeepsPorts t ∨ ∃ p r u, s.serving = true ∧ s.KeepsPorts u ∧ t = u.finishGrant p r := by
  obtain hf | ⟨p, e, u, r, hnext, hf, rfl⟩ := exec_granted h h1 h2 h3 h4 h5
  · exact .inl hf.keepsPorts
  · exact .inr ⟨p, r, u, State.nextRequest_serving hnext, hf.keepsPorts, rfl⟩

/-! ## The close of a window (R141, R164) -/

section
variable {p : PortId} {edge : CloseEdge} {s : State} {out : OutFrame}

theorem exec_windowClose_of_none (h : (s.port p).window = none) : exec (.windowClose p edge) s = .next s := by
  simp only [exec, execWindowClose, h]

/-- The close of a window that is not served only ends it (R141). -/
theorem exec_windowClose_of_unserved (h : (s.port p).window = some .unserved) :
    exec (.windowClose p edge) s = .next (s.setPort p { s.port p with window := none }) := by
  simp only [exec, execWindowClose, h]

/-- The close of a served window that acknowledges the OK of a RESET_DEVICE resets the part (R164). -/
theorem exec_windowClose_of_reset (h : (s.port p).window = some (.served out))
    (hreset : (s.port p).triggersReset out (clockedBytes edge.sdi) = true) :
    exec (.windowClose p edge) s =
      .next ((s.setPort p { s.port p with window := none }).deviceReset edge.supsel1 edge.supsel0) := by
  simp only [exec, execWindowClose, h, hreset, if_true]

/-- Any other close of a served window disposes of the outgoing frame and accepts the host's (R145, R146). -/
theorem exec_windowClose_of_served (h : (s.port p).window = some (.served out))
    (hreset : (s.port p).triggersReset out (clockedBytes edge.sdi) = false) :
    exec (.windowClose p edge) s =
      .next (s.setPort p
        { ((s.port p).dispose out (clockedBytes edge.sdi)).accept (clockedBytes edge.sdi) with window := none }) := by
  simp only [exec, execWindowClose, h, hreset, Bool.false_eq_true, if_false]

end

/-- The closes of a window: of none, of one that is not served, and of a served one, which resets the part or serves its port. -/
theorem exec_windowClose_cases {p : PortId} {edge : CloseEdge} {s t : State} (h : exec (.windowClose p edge) s = .next t) :
    ((s.port p).window = none ∧ t = s) ∨
      ((s.port p).window = some .unserved ∧ t = s.setPort p { s.port p with window := none }) ∨
      ∃ out, (s.port p).window = some (.served out) ∧
        (t = (s.setPort p { s.port p with window := none }).deviceReset edge.supsel1 edge.supsel0 ∨
          t = s.setPort p
            { ((s.port p).dispose out (clockedBytes edge.sdi)).accept (clockedBytes edge.sdi) with window := none }) := by
  match hwindow : (s.port p).window with
  | none =>
    rw [exec_windowClose_of_none hwindow] at h
    cases h
    exact .inl ⟨rfl, rfl⟩
  | some .unserved =>
    rw [exec_windowClose_of_unserved hwindow] at h
    cases h
    exact .inr (.inl ⟨rfl, rfl⟩)
  | some (.served out) =>
    refine .inr (.inr ⟨out, rfl, ?_⟩)
    cases hreset : (s.port p).triggersReset out (clockedBytes edge.sdi) with
    | true => rw [exec_windowClose_of_reset hwindow hreset] at h; cases h; exact .inl rfl
    | false => rw [exec_windowClose_of_served hwindow hreset] at h; cases h; exact .inr rfl

/-! ## Device state, roles and queue (R155, R162) -/

theorem exec_completes (c : Instr) (s : State) : ∃ t, exec c s = .next t := by
  cases c <;> exact ⟨_, rfl⟩

theorem exec_windowClose_pending {p : PortId} {edge : CloseEdge} {s t : State}
    (h : exec (.windowClose p edge) s = .next t) : t.pending = s.pending := by
  obtain ⟨-, rfl⟩ | ⟨-, rfl⟩ | ⟨out, -, rfl | rfl⟩ := exec_windowClose_cases h
  · rfl
  all_goals exact s.setPort_pending p _

/-- Settles O3: a command that is no reset, no end of one, and no window runs through changes that keep all this; of the others each is followed
on its own. -/
theorem everyCommandCompletes : Obligations.EveryCommandCompletes := by
  intro c s
  obtain ⟨t, h⟩ := exec_completes c s
  refine ⟨t, h, ?_⟩
  cases c with
  | reset => cases h; exact ⟨rfl, fun hne => absurd rfl hne⟩
  | resetEnd a b => cases h; exact ⟨by split <;> rfl, fun _ hne => absurd rfl (hne a b)⟩
  | checkEnd passed => cases h; exact ⟨by split <;> rfl, fun _ _ hne => absurd rfl (hne passed)⟩
  | windowClose p edge => exact ⟨exec_windowClose_pending h, fun _ _ _ hne => absurd rfl (hne p edge)⟩
  | windowOpen p =>
    cases h
    split
    · exact ⟨rfl, fun _ _ _ _ => ⟨rfl, rfl, rfl, rfl⟩⟩
    · exact ⟨s.setPort_pending p _, fun _ _ _ _ =>
        ⟨s.setPort_device p _, s.setPort_supervisors p _, s.setPort_supsel1 p _, s.setPort_supsel0 p _⟩⟩
  | _ =>
    obtain hkeeps | ⟨p, r, u, -, hkeeps, rfl⟩ := exec_keepsPorts h nofun nofun nofun nofun nofun
    · exact ⟨hkeeps.pending, fun _ _ _ _ => ⟨hkeeps.device, hkeeps.supervisors, hkeeps.supsel1, hkeeps.supsel0⟩⟩
    · exact ⟨(u.finishGrant_pending p r).trans hkeeps.pending, fun _ _ _ _ =>
        ⟨(u.finishGrant_device p r).trans hkeeps.device, (u.finishGrant_supervisors p r).trans hkeeps.supervisors,
          (u.finishGrant_supsel1 p r).trans hkeeps.supsel1, (u.finishGrant_supsel0 p r).trans hkeeps.supsel0⟩⟩

end Sys2Proof.Machine
end

section
/-! The law of slots (R144), and the quiet of a part in reset or in CHECKING (R160, R161). -/

namespace Sys2Proof.Machine

/-! ## The slots of a port (R144, R145, R146, R152) -/

/-- At most four slots are occupied, and the DONE ones stand before the WAITING ones (R144). -/
def SlotsLawful (slots : List PortSlot) : Prop :=
  slots.length ≤ 4 ∧ slots.Pairwise fun a b => b.response.isSome → a.response.isSome

theorem slotsLaw_iff (s : State) : SlotsLaw s ↔ ∀ p, SlotsLawful (s.port p).slots := Iff.rfl

theorem SlotsLawful.nil : SlotsLawful [] := ⟨Nat.zero_le 4, .nil⟩

/-- The head slot leaves (R145). -/
theorem SlotsLawful.tail {slots : List PortSlot} (h : SlotsLawful slots) : SlotsLawful slots.tail :=
  ⟨List.length_tail ▸ (Nat.sub_le _ 1).trans h.1, h.2.tail⟩

/-- A request takes a FREE slot, and waits there (R146). -/
theorem SlotsLawful.append_waiting {slots : List PortSlot} (h : SlotsLawful slots) (hfree : slots.length < 4)
    {e : PortSlot} (he : e.response = none) : SlotsLawful (slots ++ [e]) := by
  refine ⟨by simpa using hfree, List.pairwise_append.mpr ⟨h.2, List.pairwise_singleton _ e, fun a _ b hb hdone => ?_⟩⟩
  rw [List.mem_singleton.mp hb, he] at hdone
  cases hdone

theorem answerSlots_length (resp : Response) (slots : List PortSlot) :
    (answerSlots resp slots).length = slots.length := by
  induction slots with
  | nil => rfl
  | cons e rest ih =>
    unfold answerSlots
    split
    · rfl
    · exact congrArg (· + 1) ih

/-- The earliest WAITING slot becomes DONE, so that the DONE slots still stand first (R152). -/
theorem SlotsLawful.answerSlots {slots : List PortSlot} (h : SlotsLawful slots) (resp : Response) :
    SlotsLawful (answerSlots resp slots) := by
  obtain ⟨hlength, hdone⟩ := h
  refine ⟨(answerSlots_length resp slots).trans_le hlength, ?_⟩
  clear hlength
  induction hdone with
  | nil => exact .nil
  | @cons e rest hhead htail ih =>
    unfold Machine.answerSlots
    split
    · exact .cons (fun _ _ _ => rfl) htail
    · rename_i hwaiting
      refine .cons (fun _ _ _ => ?_) ih
      exact Option.isSome_iff_ne_none.mpr (by simpa [PortSlot.waiting] using hwaiting)

/-- What the disposal leaves of a port (R145). -/
theorem PortRecord.dispose_eq (r : PortRecord) (out : OutFrame) (bytes : List Byte) :
    r.dispose out bytes =
      { r with
        slots := if acknowledged out bytes && out.isResponse then r.slots.tail else r.slots
        frameError := r.frameError && !(acknowledged out bytes && out.frameErrorShown)
        overrun := r.overrun && !(acknowledged out bytes && out.overrunShown) } := by
  unfold PortRecord.dispose
  cases acknowledged out bytes
  · simp
  · simp

theorem PortRecord.slotsLawful_dispose {r : PortRecord} (h : SlotsLawful r.slots) (out : OutFrame) (bytes : List Byte) :
    SlotsLawful (r.dispose out bytes).slots := by
  rw [PortRecord.dispose_eq]
  dsimp only
  split
  · exact h.tail
  · exact h

theorem PortRecord.slotsLawful_accept {r : PortRecord} (h : SlotsLawful r.slots) (bytes : List Byte) :
    SlotsLawful (r.accept bytes).slots := by
  unfold PortRecord.accept
  split
  · exact h
  · exact h
  · split
    · exact h
    · split
      · exact h.append_waiting (by assumption) rfl
      · exact h

theorem SlotsLaw.congr {s t : State} (h : SlotsLaw s) (hslots : ∀ p, (t.port p).slots = (s.port p).slots) : SlotsLaw t :=
  fun p => by rw [hslots p]; exact h p

theorem SlotsLaw.of_empty {t : State} (hslots : ∀ p, (t.port p).slots = []) : SlotsLaw t :=
  (slotsLaw_iff t).mpr fun p => by rw [hslots p]; exact .nil

theorem SlotsLaw.setPort {s : State} (h : SlotsLaw s) {p : PortId} {r : PortRecord} (hr : SlotsLawful r.slots) :
    SlotsLaw (s.setPort p r) := (slotsLaw_iff _).mpr fun q => by
  rw [State.setPort_port]
  split
  · exact hr
  · exact h q

theorem SlotsLaw.finishGrant {s : State} (h : SlotsLaw s) (p : PortId) (resp : Response) :
    SlotsLaw (s.finishGrant p resp) := (slotsLaw_iff _).mpr fun q => by
  rw [State.finishGrant_port]
  split
  · exact SlotsLawful.answerSlots (h p) resp
  · exact h q

theorem State.deviceReset_port_slots (s : State) (a b : Bool) (p : PortId) : ((s.deviceReset a b).port p).slots = [] := by
  cases p <;> rfl

/-- Every command keeps the law of slots: a grant answers a slot, the close of a window frees one or takes one, and a reset and the end of the
check empty them. -/
theorem exec_slotsLaw {c : Instr} {s t : State} (hs : SlotsLaw s) (h : exec c s = .next t) : SlotsLaw t := by
  cases c with
  | reset => cases h; exact .of_empty fun p => by cases p <;> rfl
  | resetEnd a b =>
    cases h
    split
    · exact hs.congr fun p => by cases p <;> rfl
    · exact hs
  | checkEnd passed =>
    cases h
    split
    · exact .of_empty fun p => by cases p <;> rfl
    · exact hs
  | windowOpen p =>
    cases h
    split
    · exact hs
    · exact hs.setPort (hs p)
  | windowClose p edge =>
    obtain ⟨-, rfl⟩ | ⟨-, rfl⟩ | ⟨out, -, rfl | rfl⟩ := exec_windowClose_cases h
    · exact hs
    · exact hs.setPort (hs p)
    · exact .of_empty (State.deviceReset_port_slots _ _ _)
    · exact hs.setPort (PortRecord.slotsLawful_accept (PortRecord.slotsLawful_dispose (hs p) out _) _)
  | _ =>
    obtain hkeeps | ⟨p, r, u, -, hkeeps, rfl⟩ := exec_keepsPorts h nofun nofun nofun nofun nofun
    · exact hs.congr hkeeps.slots
    · exact (hs.congr hkeeps.slots).finishGrant p r

/-! ## Commands that change nothing of a quiet part -/

theorem PortRecord.recount_self (r : PortRecord) (p : PortId) (l : List PointRecord) : r.recount p l l = r := by
  have hsame : ∀ e ∈ l.zip l, e.1 = e.2 := fun e he => by
    obtain ⟨i, hi, rfl⟩ := List.getElem_of_mem he
    rw [List.getElem_zip]
  have hset : marksSet p l l = 0 := List.countP_eq_zero.mpr fun e he => by rw [hsame e he]; simp
  have hremoved : marksRemoved p l l = 0 := List.countP_eq_zero.mpr fun e he => by rw [hsame e he]; simp
  unfold PortRecord.recount
  rw [hset, hremoved]
  rfl

/-- An update that leaves each record as it is leaves the part as it is. -/
theorem State.updatePoints_self (s : State) : (s.updatePoints fun _ r => r) = s := by
  unfold State.updatePoints
  simp only [tabMap_id, PortRecord.recount_self]

theorem State.releaseMembers_nil (s : State) : s.releaseMembers [] = s := by
  refine (State.updatePoints_congr fun i => ?_).trans s.updatePoints_self
  exact report_self _

/-- Where no lease is HELD and no cycle timer runs, a tick changes nothing (R71, R114). -/
theorem State.clockTick_of_idle {s : State} (hleases : ∀ k, (s.leaseAt k).state ≠ .held)
    (htimers : ∀ l, (s.link l).cycleTimer = none) : s.clockTick = s := by
  have hexpiring (k : LeaseIndex) : (s.leaseAt k).expiring = false := by
    simp [LeaseRecord.expiring, hleases k]
  have hmembers : s.expiringMembers = [] := by
    rw [State.expiringMembers, table_toList]
    exact List.flatMap_eq_nil_iff.mpr fun r hr => by
      obtain ⟨k, -, rfl⟩ := List.mem_map.mp hr
      exact if_neg (by rw [← State.leaseAt, hexpiring]; exact Bool.false_ne_true)
  have htick (k : LeaseIndex) : (s.leaseAt k).tick = s.leaseAt k := by
    rw [LeaseRecord.tick_eq, hexpiring, if_neg (hleases k)]
    rfl
  have hlinks (l : LinkId) : (s.link l).tick = s.link l := by
    unfold LinkRecord.tick
    rw [htimers l, Option.map_none, ← htimers l]
  have hmap : (s.mapLeases fun _ r => r.tick) = s := by
    unfold State.mapLeases
    rw [show tabMap (fun _ r => LeaseRecord.tick r) s.leases = s.leases from table_ext fun k =>
      (tabMap_get _ _ k).trans (htick k)]
  unfold State.clockTick
  rw [hmembers, State.releaseMembers_nil, hmap]
  dsimp only
  rw [hlinks .l0, State.setLink_self, hlinks .l1, State.setLink_self]

/-- While the part is in reset or in CHECKING nothing is granted, no lease and no timer runs, and no link has a call: every command but a reset, its
end, the end of the check and the windows changes nothing (R160, R161). -/
theorem QuietLaw.exec_idle {s t : State} (hquiet : QuietLaw s) (hserving : s.serving = false) {c : Instr}
    (h : exec c s = .next t) (h1 : c ≠ .reset) (h2 : ∀ a b, c ≠ .resetEnd a b) (h3 : ∀ b, c ≠ .checkEnd b)
    (h4 : ∀ p, c ≠ .windowOpen p) (h5 : ∀ p e, c ≠ .windowClose p e) : t = s := by
  suffices hidle : exec c s = .next s by rw [hidle] at h; cases h; rfl
  clear h
  obtain ⟨-, -, -, hleases, hlinks, -, -⟩ := hquiet hserving
  have hlease (k : LeaseIndex) : (s.leaseAt k).state ≠ .held := by
    rw [State.leaseAt, hleases, ← State.leaseAt, State.reset_leaseAt]
    exact nofun
  have htimer (l : LinkId) : (s.link l).cycleTimer = none := by rw [hlinks l]; rfl
  have hcall (l : LinkId) : (s.link l).call = none := by rw [hlinks l]; rfl
  have hoff (l : LinkId) : (s.link l).state = .off := by rw [hlinks l]; rfl
  have hnext : s.nextRequest = none := by rw [State.nextRequest, hserving]; rfl
  obtain ⟨-, hgrant, -, -, -, -, hexpiry, hbuild, hretry, hwait, -, hpark, hindex, hlapse⟩ :=
    impossibleCommandsChangeNothing s
  cases c with
  | reset => exact absurd rfl h1
  | resetEnd a b => exact absurd rfl (h2 a b)
  | checkEnd b => exact absurd rfl (h3 b)
  | windowOpen p => exact absurd rfl (h4 p)
  | windowClose p e => exact absurd rfl (h5 p e)
  | leaseClockTick => exact congrArg Host.Outcome.next (State.clockTick_of_idle hlease htimer)
  | leaseExpiry k =>
    by_cases hk : k < 64
    · exact hlapse ⟨k, hk⟩ (.inl (hlease _))
    · exact hindex k (Nat.not_lt.mp hk)
  | cycleTimerExpiry l => exact hexpiry l (.inl (by rw [htimer l]; exact nofun))
  | callBuild l => exact hbuild l (.inr (.inl (hoff l)))
  | attemptRetry l => exact hretry l (.inl (hcall l))
  | answerReceived l frame => exact (hwait l (.inl (hcall l))).1 frame
  | replyTimeout l => exact (hwait l (.inl (hcall l))).2.1
  | answerBadLength l n => exact (hwait l (.inl (hcall l))).2.2.1 n
  | answerTruncated l => exact (hwait l (.inl (hcall l))).2.2.2.1
  | framingFault l => exact (hwait l (.inl (hcall l))).2.2.2.2
  | broadcastParkCompletion l => exact hpark l (.inr (.inl (hcall l)))
  | unknownRequest => exact hgrant _ ⟨0, by decide⟩ hnext
  | _ => exact hgrant _ ⟨_, beq_self_eq_true _⟩ hnext

/-! ## The quiet of a part that serves no windows (R160, R161) -/

theorem QuietLaw.of_serving {t : State} (h : t.serving = true) : QuietLaw t := fun hquiet => by
  rw [h] at hquiet; cases hquiet

theorem PortRecord.abandoned_quiet (r : PortRecord) :
    { r.abandoned with window := none } = PortRecord.reset ∧
      (r.abandoned.window = none ∨ r.abandoned.window = some .unserved) := by
  refine ⟨rfl, ?_⟩
  unfold PortRecord.abandoned
  cases r.window with
  | none => exact .inl rfl
  | some _ => exact .inr rfl

/-- A reset leaves every block at its reset value, and no window is served any longer (R160). -/
theorem QuietLaw.resetBlocks (s : State) : QuietLaw s.resetBlocks := fun _ =>
  ⟨rfl, rfl, rfl, rfl, s.resetBlocks_link, rfl, fun p => by rw [State.resetBlocks_port]; exact (s.port p).abandoned_quiet⟩

theorem State.enterChecking_link (s : State) (a b : Bool) (l : LinkId) : (s.enterChecking a b).link l = s.link l := by
  cases l <;> rfl
theorem State.enterChecking_port (s : State) (a b : Bool) (p : PortId) : (s.enterChecking a b).port p = s.port p := by
  cases p <;> rfl

/-- The end of a reset leaves every block as it is (R155, log entry 30). -/
theorem QuietLaw.enterChecking {s : State} (h : QuietLaw s) (hserving : s.serving = false) (a b : Bool) :
    QuietLaw (s.enterChecking a b) := fun _ => by
  obtain ⟨hpoints, hnames, hnodes, hleases, hlinks, hpointer, hports⟩ := h hserving
  exact ⟨hpoints, hnames, hnodes, hleases, fun l => (s.enterChecking_link a b l).trans (hlinks l), hpointer,
    fun p => s.enterChecking_port a b p ▸ hports p⟩

theorem QuietLaw.deviceReset (s : State) (a b : Bool) : QuietLaw (s.deviceReset a b) :=
  (QuietLaw.resetBlocks s).enterChecking rfl a b

/-- A window that opens or ends while the part is quiet is not served (R141). -/
theorem QuietLaw.setWindow {s : State} (h : QuietLaw s) (p : PortId) {w : Option Window}
    (hw : s.serving = false → w = none ∨ w = some .unserved) : QuietLaw (s.setPort p { s.port p with window := w }) := by
  intro hserving
  have hserving : s.serving = false := by simpa [State.serving] using hserving
  obtain ⟨hpoints, hnames, hnodes, hleases, hlinks, hpointer, hports⟩ := h hserving
  refine ⟨(s.setPort_points p _).trans hpoints, (s.setPort_nameMap p _).trans hnames, (s.setPort_nodes p _).trans hnodes,
    (s.setPort_leases p _).trans hleases, fun l => (s.setPort_link p _ l).trans (hlinks l),
    (s.setPort_grantPointer p _).trans hpointer, fun q => ?_⟩
  rw [State.setPort_port]
  split
  · exact ⟨(hports p).1, hw hserving⟩
  · exact hports q

/-- Every command keeps the quiet of a part in reset or in CHECKING. -/
theorem exec_quietLaw {c : Instr} {s t : State} (hs : QuietLaw s) (h : exec c s = .next t) : QuietLaw t := by
  cases c with
  | reset => cases h; exact .resetBlocks s
  | resetEnd a b =>
    cases h
    split
    · rename_i hheld
      exact hs.enterChecking (by simp [State.serving, hheld]) a b
    · exact hs
  | checkEnd passed =>
    cases h
    split
    · exact .of_serving (by cases passed <;> rfl)
    · exact hs
  | windowOpen p =>
    cases h
    split
    · exact hs
    · exact hs.setWindow p fun hserving => .inr (by rw [hserving]; rfl)
  | windowClose p edge =>
    obtain ⟨-, rfl⟩ | ⟨-, rfl⟩ | ⟨out, hwindow, rfl | rfl⟩ := exec_windowClose_cases h
    · exact hs
    · exact hs.setWindow p fun _ => .inl rfl
    · exact .deviceReset _ _ _
    · intro hserving
      have hserving : s.serving = false := by simpa [State.serving] using hserving
      obtain ⟨-, -, -, -, -, -, hports⟩ := hs hserving
      obtain hnone | hunserved := (hports p).2
      · rw [hwindow] at hnone; cases hnone
      · rw [hwindow] at hunserved; cases hunserved
  | _ =>
    cases hserving : s.serving with
    | false => rw [hs.exec_idle hserving h nofun nofun nofun nofun nofun]; exact hs
    | true =>
      refine .of_serving ?_
      obtain hkeeps | ⟨p, r, u, -, hkeeps, rfl⟩ := exec_keepsPorts h nofun nofun nofun nofun nofun
      · rw [State.serving, hkeeps.device]; exact hserving
      · rw [State.serving, State.finishGrant_device, hkeeps.device]; exact hserving

theorem SlotsLaw.setPending {s : State} (h : SlotsLaw s) (q : List Instr) : SlotsLaw (s.setPending q) :=
  h.congr fun p => by rw [State.setPending_port]

/-- Settles O55: the slots are followed through the grants and the closes of windows, and a part that serves no windows takes only a reset, its end,
the end of the check and the edges of CSn. -/
theorem stepKeepsPortLaws : Obligations.StepKeepsPortLaws := by
  intro s t hslots hquiet h
  obtain rfl | ⟨c, rest, hexec⟩ := step_next h
  · exact ⟨hslots, hquiet⟩
  · exact ⟨exec_slotsLaw (hslots.setPending rest) hexec, exec_quietLaw (hquiet.setPending rest) hexec⟩

end Sys2Proof.Machine
end

section
/-! Reset and check (R155, R160, R161), what a window shifts out (R141, R143, R145), and the status byte and the attention line (R148, R149,
R151). -/

namespace Sys2Proof.Machine

/-! ## Reset and check (R155, R160, R161) -/

theorem execResetEnd_of_held {s : State} (h : s.device = .resetHeld) (supsel1 supsel0 : Bool) :
    exec (.resetEnd supsel1 supsel0) s = .next (s.enterChecking supsel1 supsel0) :=
  congrArg Host.Outcome.next (if_pos h)

/-- Settles O6, from the end of a reset for each pair of levels, and from the stores one by one. -/
theorem resetEndAndCheckEnd : Obligations.ResetEndAndCheckEnd := by
  intro s
  refine ⟨fun hheld => ⟨execResetEnd_of_held hheld false false, execResetEnd_of_held hheld false true,
    execResetEnd_of_held hheld true false, execResetEnd_of_held hheld true true⟩, fun hchecking passed => ?_⟩
  refine ⟨_, congrArg Host.Outcome.next (if_pos hchecking), rfl, rfl, rfl, State.reset_point, State.reset_node,
    State.reset_leaseAt, fun l => ?_, fun p => ?_, rfl, rfl⟩
  · cases l <;> rfl
  · cases p <;> rfl

/-! ## What a window shifts out (R141, R143, R145) -/

theorem State.serving_iff (s : State) : s.serving = true ↔ s.device = .ready ∨ s.device = .failed := by
  simp [State.serving]

theorem State.not_serving {s : State} (h : s.device = .resetHeld ∨ s.device = .checking) : s.serving = false := by
  obtain h | h := h <;> simp [State.serving, h]

/-- The edge of CSn that opens a window fixes what it shifts out (R141). -/
theorem exec_windowOpen {s : State} {p : PortId} (h : (s.port p).window = none) :
    exec (.windowOpen p) s =
      .next (s.setPort p
        { s.port p with window := some (if s.serving then .served (s.outFrame p) else .unserved) }) := by
  simp only [exec, execWindowOpen, h, Option.isSome_none, Bool.false_eq_true, if_false]

/-- The outgoing frame is the head slot's response if it is DONE (R143). -/
theorem State.outFrame_of_done {s : State} {p : PortId} {head : PortSlot} {resp : Response} {behind : List PortSlot}
    (hslots : (s.port p).slots = head :: behind) (hdone : head.response = some resp) :
    s.outFrame p =
      ⟨partFrame head.tag resp.result (s.statusByte p (behind.any PortSlot.done)) resp.fields, true,
        (s.port p).frameError, (s.port p).overrun⟩ := by
  obtain ⟨tag, code, params, response⟩ := head
  obtain rfl : response = some resp := hdone
  unfold State.outFrame
  dsimp only
  rw [hslots]

/-- Otherwise it is an IDLE frame (R143). -/
theorem State.outFrame_of_idle {s : State} {p : PortId}
    (h : (s.port p).slots = [] ∨ ∃ head behind, (s.port p).slots = head :: behind ∧ head.response = none) :
    s.outFrame p = ⟨partFrame 0 .idle (s.statusByte p false) [], false, (s.port p).frameError, (s.port p).overrun⟩ := by
  unfold State.outFrame
  dsimp only
  obtain hnone | ⟨⟨tag, code, params, response⟩, behind, hslots, hwaiting⟩ := h
  · rw [hnone]
  · obtain rfl : response = none := hwaiting
    rw [hslots]

/-- The bits of a run of bytes, by their byte. -/
theorem overSpi_getElem? (bytes : List Byte) (k : Nat) :
    (overSpi bytes)[k]? = bytes[k / 8]?.bind fun b => (spiBits b)[k % 8]? := by
  rw [overSpi_eq]
  induction bytes generalizing k with
  | nil => rfl
  | cons b rest ih =>
    rw [List.flatMap_cons]
    by_cases hk : k < 8
    · rw [List.getElem?_append_left (by simpa [spiBits] using hk), Nat.div_eq_of_lt hk, Nat.mod_eq_of_lt hk]
      rfl
    · obtain ⟨j, rfl⟩ := Nat.exists_eq_add_of_le (Nat.not_lt.mp hk)
      rw [List.getElem?_append_right (by simp [spiBits]), show 8 + j - (spiBits b).length = j from Nat.add_sub_cancel_left 8 j,
        ih, show (8 + j) / 8 = j / 8 + 1 by omega, Nat.add_mod_left, List.getElem?_cons_succ]

/-- SDOn shows the outgoing frame's bits, and is high after them (R141, R167). -/
theorem Window.sdoLevel_served (out : OutFrame) (falls : Nat) :
    Window.sdoLevel (.served out) falls = ((overSpi out.frame)[falls]?).getD true := by
  unfold Window.sdoLevel windowOutput
  rw [List.getD_eq_getElem?_getD, ← overSpi_eq, overSpi_getElem?, overSpi_getElem?,
    List.getElem?_take_of_lt (Nat.lt_succ_self _)]
  by_cases hin : falls / 8 < out.frame.length
  · rw [List.getElem?_append_left hin]
  · rw [List.getElem?_append_right (Nat.not_lt.mp hin), List.getElem?_eq_none (Nat.not_lt.mp hin),
      List.getElem?_replicate, if_pos (by omega), Option.bind_some, spiBits_ones, List.getElem?_replicate,
      if_pos (Nat.mod_lt _ (by decide))]
    rfl

/-- Settles O7: the frame by the head slot, and SDOn by the window. -/
theorem windowOpenFixesTheFrame : Obligations.WindowOpenFixesTheFrame := by
  intro p s hclosed
  refine ⟨fun hquiet => ?_, fun hserves => ⟨fun head resp behind hslots hdone => ?_, fun hidle => ?_⟩, fun r falls => ?_⟩
  · rw [exec_windowOpen hclosed, State.not_serving hquiet]
    rfl
  · rw [exec_windowOpen hclosed, s.serving_iff.mpr hserves, State.outFrame_of_done hslots hdone]
    rfl
  · rw [exec_windowOpen hclosed, s.serving_iff.mpr hserves, State.outFrame_of_idle hidle]
    rfl
  · unfold PortRecord.sdoLevel
    match r.window with
    | none => rfl
    | some .unserved => exact congrArg some (Window.sdoLevel_unserved falls)
    | some (.served out) => exact congrArg some (Window.sdoLevel_served out falls)

/-! ## Status byte and attention (R148, R149, R151) -/

theorem spiBits_statusBits (more marks lapse frameError overrun session failed : Bool) :
    spiBits (statusBits more marks lapse frameError overrun session failed) =
      [false, failed, session, overrun, frameError, lapse, marks, more] := by
  revert more marks lapse frameError overrun session failed
  decide +kernel

theorem State.lapseCondition_iff (s : State) (p : PortId) :
    s.lapseCondition p = true ↔ ∃ k, (s.leaseAt k).state = .lapsed ∧ (s.leaseAt k).holder = some p := by
  unfold State.lapseCondition
  rw [table_toList]
  simp [State.leaseAt]

/-- Settles O8: the bits of the status byte in their places, and the line's conditions one by one. -/
theorem statusByteAndAttention : Obligations.StatusByteAndAttention := by
  intro s p more
  refine ⟨?_, ?_⟩
  · have hbits : spiBits (s.statusByte p more) = _ := spiBits_statusBits more _ _ _ _ _ _
    simp only [spiBits, List.cons.injEq, and_true] at hbits
    obtain ⟨hzero, hfailed, hsession, hoverrun, hframe, hlapse, hmarks, hmore⟩ := hbits
    refine ⟨hmore, ?_, ?_, hframe, hoverrun, hsession, ?_, hzero⟩
    · rw [hmarks, decide_eq_true_iff]
    · rw [hlapse, State.lapseCondition_iff]
    · rw [hfailed, beq_iff_eq]
  · unfold State.attnLow
    simp only [Bool.and_eq_true, Bool.or_eq_true, List.any_eq_true, decide_eq_true_iff, State.serving_iff,
      State.lapseCondition_iff, PortSlot.done, or_assoc]

/-- Settles O42: the two settings are in range or not. -/
theorem setAttentionSetsTheMask : Obligations.SetAttentionSetsTheMask := by
  intro s p m l hasks
  have hone (b : Byte) : decide (b.toNat = 1) = (b == 1) := by
    rw [Bool.eq_iff_iff, decide_eq_true_iff, beq_iff_eq, ← BitVec.toNat_inj]
    rfl
  refine ⟨fun hrange => ?_, fun hm hl => ?_⟩
  · exact congrArg Host.Outcome.next (State.grant_eq_of_asks hasks rfl (if_pos hrange))
  · rw [← hone m, ← hone l]
    exact congrArg Host.Outcome.next (State.grant_eq_of_asks hasks rfl (if_neg (by omega)))

end Sys2Proof.Machine
end

section
/-! The close of a window (R141, R142, R145, R146, R147, R164): what its bytes are, the disposal of the outgoing frame and the acceptance of the
host's, and the reset of an acknowledged RESET_DEVICE. -/

namespace Sys2Proof.Machine

/-! ## The host's bytes (R142, R168) -/

/-- A frame of the right length and CRC is well-formed, whatever follows it. -/
theorem judgeFrame_wellFormed (tag code : Byte) {params : List Byte} (hlength : params.length ≤ 60) (filler : List Byte) :
    judgeFrame ((byte (4 + params.length) :: tag :: code :: params) ++
        crc8 (byte (4 + params.length) :: tag :: code :: params) :: filler) = .wellFormed tag code params := by
  have hlen : (byte (4 + params.length)).toNat = 4 + params.length := byte_toNat (by omega)
  generalize hbody : byte (4 + params.length) :: tag :: code :: params = body
  have hbodyLength : body.length = 4 + params.length - 1 := by rw [← hbody]; simp; omega
  have htake : (body ++ crc8 body :: filler).take (4 + params.length - 1) = body := by
    rw [← hbodyLength, List.take_left]
  have hcrc : (body ++ crc8 body :: filler)[4 + params.length - 1]? = some (crc8 body) := by
    rw [← hbodyLength, List.getElem?_append_right le_rfl, Nat.sub_self, List.getElem?_cons_zero]
  have hcount : ¬(4 + params.length < 4 ∨ 64 < 4 + params.length ∨ (body ++ crc8 body :: filler).length < 4 + params.length) := by
    rw [List.length_append, List.length_cons]
    omega
  have hcons : body ++ crc8 body :: filler = byte (4 + params.length) :: (body ++ crc8 body :: filler).tail := by
    rw [← hbody]; rfl
  rw [hcons]
  unfold judgeFrame
  dsimp only
  rw [← hcons, hlen, if_neg (by omega), if_neg hcount, htake, if_pos hcrc, ← hbody]

theorem judgeFrame_noFrame {bytes : List Byte} (h : bytes = [] ∨ bytes.head? = some 0) : judgeFrame bytes = .noFrame := by
  match bytes, h with
  | [], _ => rfl
  | L :: rest, h =>
    obtain rfl : L = 0 := by simpa using h
    rfl

/-- A length out of range, too few bytes and a wrong CRC are each a frame error. -/
theorem judgeFrame_frameError {bytes : List Byte} {L : Byte} (hhead : bytes.head? = some L) (hL : L.toNat ≠ 0)
    (herror : L.toNat < 4 ∨ 64 < L.toNat ∨ bytes.length < L.toNat ∨
      bytes[L.toNat - 1]? ≠ some (crc8 (bytes.take (L.toNat - 1)))) : judgeFrame bytes = .frameError := by
  match bytes, hhead with
  | _ :: rest, rfl =>
    unfold judgeFrame
    dsimp only
    rw [if_neg hL]
    by_cases hlength : L.toNat < 4 ∨ 64 < L.toNat ∨ (L :: rest).length < L.toNat
    · rw [if_pos hlength]
    · have hcrc : (L :: rest)[L.toNat - 1]? ≠ some (crc8 ((L :: rest).take (L.toNat - 1))) := by tauto
      rw [if_neg hlength, if_neg hcrc]

/-! ## Disposal and acceptance (R145, R146) -/

section
variable {r : PortRecord} {out : OutFrame} {bytes : List Byte}

/-- A well-formed frame acknowledges what was clocked out whole (R145). -/
theorem acknowledged_of_wellFormed {tag code : Byte} {params : List Byte} (h : judgeFrame bytes = .wellFormed tag code params) :
    acknowledged out bytes = decide (out.frame.length ≤ bytes.length) := by
  unfold acknowledged
  rw [h]

theorem acknowledged_of_noFrame (h : judgeFrame bytes = .noFrame) : acknowledged out bytes = false := by
  unfold acknowledged
  rw [h]

theorem acknowledged_of_frameError (h : judgeFrame bytes = .frameError) : acknowledged out bytes = false := by
  unfold acknowledged
  rw [h]

/-- What is not acknowledged is not disposed of (R145). -/
theorem PortRecord.dispose_of_not_acknowledged (h : acknowledged out bytes = false) : r.dispose out bytes = r :=
  if_neg (by rw [h]; exact Bool.false_ne_true)

/-- A POLL takes no slot, and any other frame takes a FREE slot or sets OVERRUN (R142, R146). -/
theorem PortRecord.accept_wellFormed {tag code : Byte} {params : List Byte}
    (h : judgeFrame bytes = .wellFormed tag code params) :
    let poll := code == 0x01 && params.length == 0
    let fits := decide (r.slots.length < 4)
    r.accept bytes =
      { r with
        slots := if !poll && fits then r.slots ++ [⟨tag, code, params, none⟩] else r.slots
        overrun := r.overrun || (!poll && !fits) } := by
  have hpoll : isPoll code params = (code == 0x01 && params.length == 0) := by
    cases params <;> rfl
  unfold PortRecord.accept
  rw [h]
  dsimp only
  rw [← hpoll]
  cases isPoll code params with
  | true => simp
  | false =>
    by_cases hfits : r.slots.length < 4
    · simp [Config.slotsPerPort, hfits]
    · simp [Config.slotsPerPort, hfits]

/-- The reset is triggered by no close that leaves the head slot, and by none whose head slot holds another response (R164, log entry 15). -/
theorem PortRecord.triggersReset_eq_false
    (h : (acknowledged out bytes && out.isResponse) = false ∨
      ∀ head behind, r.slots = head :: behind → head.code ≠ 0x06 ∨ head.response ≠ some ⟨.ok, []⟩) :
    r.triggersReset out bytes = false := by
  unfold PortRecord.triggersReset
  obtain hkept | hother := h
  · rw [Bool.and_right_comm, Bool.and_comm out.isResponse, hkept, Bool.false_and]
  · have hhead : r.headIsReset = false := by
      unfold PortRecord.headIsReset
      split
      · rename_i head behind hslots
        rw [Bool.and_eq_false_iff, beq_eq_false_iff_ne, beq_eq_false_iff_ne]
        exact hother head behind hslots
      · rfl
    rw [hhead, Bool.and_false, Bool.false_and]

end

/-- Settles O9: the host's bytes are a well-formed frame, of which the disposal and then the acceptance follow. -/
theorem windowCloseTakesAFrame : Obligations.WindowCloseTakesAFrame := by
  intro p s out tag code params filler partialByte supsel1 supsel0 hwindow hparams hpartial r body bytes acked slots poll fits
    hreset
  have hbytes : clockedBytes (overSpi bytes ++ partialByte) = bytes := clockedBytes_overSpi bytes hpartial
  have hjudge : judgeFrame bytes = .wellFormed tag code params := judgeFrame_wellFormed tag code hparams filler
  have hacked : acknowledged out bytes = acked := acknowledged_of_wellFormed hjudge
  rw [← hacked] at hreset
  have htrigger := PortRecord.triggersReset_eq_false hreset
  rw [exec_windowClose_of_served hwindow (hbytes.symm ▸ htrigger), hbytes, PortRecord.accept_wellFormed hjudge,
    PortRecord.dispose_eq, hacked]

/-- Settles O10, by what the host's bytes are. -/
theorem windowCloseWithoutAFrame : Obligations.WindowCloseWithoutAFrame := by
  intro p s bytes partialByte supsel1 supsel0 hpartial r edge
  have hbytes : clockedBytes edge.sdi = bytes := clockedBytes_overSpi bytes hpartial
  have hclose {out : OutFrame} (hwindow : r.window = some (.served out)) (hnot : acknowledged out bytes = false) :
      exec (.windowClose p edge) s = .next (s.setPort p { r.accept bytes with window := none }) := by
    have htrigger := PortRecord.triggersReset_eq_false (r := r) (.inl (by rw [hnot, Bool.false_and]))
    rw [exec_windowClose_of_served hwindow (hbytes.symm ▸ htrigger), hbytes, PortRecord.dispose_of_not_acknowledged hnot]
  refine ⟨exec_windowClose_of_unserved, fun out hwindow => ⟨fun hnone => ?_, fun L hhead hL herror => ?_⟩⟩
  · have hjudge := judgeFrame_noFrame hnone
    rw [hclose hwindow (acknowledged_of_noFrame hjudge), PortRecord.accept, hjudge]
  · have hjudge := judgeFrame_frameError hhead hL herror
    rw [hclose hwindow (acknowledged_of_frameError hjudge), PortRecord.accept, hjudge]

/-! ## The reset of an acknowledged RESET_DEVICE (R155, R160, R164) -/

theorem PortRecord.triggersReset_eq_true {r : PortRecord} {out : OutFrame} {bytes : List Byte} {head : PortSlot}
    {behind : List PortSlot} (hresponse : out.isResponse = true) (hslots : r.slots = head :: behind)
    (hcode : head.code = 0x06) (hok : head.response = some ⟨.ok, []⟩) (hacked : acknowledged out bytes = true) :
    r.triggersReset out bytes = true := by
  have hhead : r.headIsReset = true := by
    unfold PortRecord.headIsReset
    rw [hslots]
    simp [hcode, hok, reqResetDevice]
  rw [PortRecord.triggersReset, hresponse, hhead, hacked]
  rfl

/-- The SUPSEL levels choose one port, or all of them (R155). -/
theorem supervisorsOf_has (supsel1 supsel0 : Bool) (q : PortId) :
    (supervisorsOf supsel1 supsel0).has q =
      ((supsel1 && supsel0) || decide (q.toNat = 2 * supsel1.toNat + supsel0.toNat)) := by
  cases supsel1 <;> cases supsel0 <;> cases q <;> rfl

/-- Settles O11: the rule of RESET_DEVICE, and the close of the window that acknowledges its OK. -/
theorem resetDeviceActsWhenAcknowledged : Obligations.ResetDeviceActsWhenAcknowledged := by
  refine ⟨fun s p hasks => congrArg Host.Outcome.next (State.grant_eq_of_supervisorAsks hasks rfl rfl), ?_⟩
  intro p s out head behind tag code params filler partialByte supsel1 supsel0 hwindow hresponse hslots hcode hok hparams
    hpartial body bytes hlength
  have hbytes : clockedBytes (overSpi bytes ++ partialByte) = bytes := clockedBytes_overSpi bytes hpartial
  have hjudge : judgeFrame bytes = .wellFormed tag code params := judgeFrame_wellFormed tag code hparams filler
  have hacked : acknowledged out bytes = true := by
    rw [acknowledged_of_wellFormed hjudge]; exact decide_eq_true hlength
  have htrigger : (s.port p).triggersReset out (clockedBytes (overSpi bytes ++ partialByte)) = true := by
    rw [hbytes]; exact PortRecord.triggersReset_eq_true hresponse hslots hcode hok hacked
  refine ⟨_, exec_windowClose_of_reset hwindow htrigger, ?_, fun q => ?_, supervisorsOf_has supsel1 supsel0⟩
  · cases p <;> rfl
  · rw [State.deviceReset, State.enterChecking_port, State.resetBlocks_port, State.setPort_port]
    split
    · rfl
    · rfl

end Sys2Proof.Machine
end

section
/-! The request engine (R152, R153, R154): which request is granted next, the common checks, and what a grant writes. -/

namespace Sys2Proof.Machine

/-! ## The turn of the ports (R152) -/

/-- The earliest WAITING slot of a port: the slots before it are DONE. -/
theorem PortRecord.firstWaiting_eq_some (r : PortRecord) (e : PortSlot) :
    r.firstWaiting = some e ↔
      ∃ before after, r.slots = before ++ e :: after ∧ e.response = none ∧ ∀ d ∈ before, d.response.isSome = true := by
  unfold PortRecord.firstWaiting PortSlot.waiting
  rw [List.find?_eq_some_iff_append, Option.isNone_iff_eq_none]
  simp only [Bool.not_eq_true', Option.isNone_eq_false_iff]
  constructor
  · rintro ⟨hwaiting, before, after, hslots, hdone⟩
    exact ⟨before, after, hslots, hwaiting, hdone⟩
  · rintro ⟨before, after, hslots, hwaiting, hdone⟩
    exact ⟨hwaiting, before, after, hslots, hdone⟩

theorem PortRecord.firstWaiting_eq_none (r : PortRecord) :
    r.firstWaiting = none ↔ ∀ d ∈ r.slots, d.response.isSome = true := by
  unfold PortRecord.firstWaiting PortSlot.waiting
  rw [List.find?_eq_none]
  simp only [Bool.not_eq_true, Option.isNone_eq_false_iff]

/-- How many ports come before a port in the turn after the grant pointer. -/
def turnOf (pointer p : PortId) : Nat := (p.toNat + 2 - pointer.toNat) % 3

theorem grantOrder_sorted (pointer : PortId) :
    (grantOrder pointer).Pairwise fun p q => turnOf pointer p < turnOf pointer q := by
  cases pointer <;> decide

theorem mem_grantOrder (pointer p : PortId) : p ∈ grantOrder pointer := by
  cases pointer <;> cases p <;> decide

/-- Of ports in a turn, the first with a WAITING slot is the one before which no port has one. -/
theorem State.firstRequest_eq_some (s : State) {turn : PortId → Nat} {ports : List PortId}
    (hsorted : ports.Pairwise fun p q => turn p < turn q) (p : PortId) (e : PortSlot) :
    s.firstRequest ports = some (p, e) ↔
      p ∈ ports ∧ (s.port p).firstWaiting = some e ∧
        ∀ q ∈ ports, turn q < turn p → (s.port q).firstWaiting = none := by
  induction hsorted with
  | nil => simp [State.firstRequest]
  | @cons a rest hfirst _ ih =>
    unfold State.firstRequest
    cases hwaiting : (s.port a).firstWaiting with
    | some e' =>
      simp only [Option.some.injEq, Prod.mk.injEq]
      constructor
      · rintro ⟨rfl, rfl⟩
        refine ⟨List.mem_cons_self, hwaiting, fun q hq hlt => ?_⟩
        obtain rfl | hq := List.mem_cons.mp hq
        · exact absurd hlt (lt_irrefl _)
        · exact absurd hlt (hfirst q hq).le.not_gt
      · rintro ⟨hp, he, hbefore⟩
        obtain rfl | hp := List.mem_cons.mp hp
        · exact ⟨rfl, Option.some.inj (hwaiting.symm.trans he)⟩
        · rw [hbefore a List.mem_cons_self (hfirst p hp)] at hwaiting
          cases hwaiting
    | none =>
      rw [ih]
      constructor
      · rintro ⟨hp, he, hbefore⟩
        refine ⟨List.mem_cons_of_mem a hp, he, fun q hq hlt => ?_⟩
        obtain rfl | hq := List.mem_cons.mp hq
        · exact hwaiting
        · exact hbefore q hq hlt
      · rintro ⟨hp, he, hbefore⟩
        refine ⟨(List.mem_cons.mp hp).resolve_left ?_, he, fun q hq => hbefore q (List.mem_cons_of_mem a hq)⟩
        rintro rfl
        rw [hwaiting] at he
        cases he

theorem State.nextRequest_eq_some (s : State) (p : PortId) (e : PortSlot) :
    s.nextRequest = some (p, e) ↔
      s.serving = true ∧ (s.port p).firstWaiting = some e ∧
        ∀ q, turnOf s.grantPointer q < turnOf s.grantPointer p → (s.port q).firstWaiting = none := by
  unfold State.nextRequest
  cases hserving : s.serving with
  | false => simp
  | true =>
    rw [if_pos rfl, s.firstRequest_eq_some (grantOrder_sorted s.grantPointer)]
    simp only [mem_grantOrder, true_and, forall_const]

/-- Settles O12: the ports are looked at in turn after the grant pointer, and the slots of a port from its head. -/
theorem grantTurnIsRoundRobin : Obligations.GrantTurnIsRoundRobin := by
  intro s p e
  rw [State.nextRequest_eq_some, State.serving_iff, PortRecord.firstWaiting_eq_some]
  simp only [PortRecord.firstWaiting_eq_none]
  rfl

end Sys2Proof.Machine
end

section
/-! What a grant comes to (R152, R153, R154): for each command of the request engine the policy and the layout its request is checked by, and what
its rule answers. -/

namespace Sys2Proof.Machine

/-! ## Parameter layouts (ch. 8.4, R153) -/

/-- Parameter bytes are of a layout. -/
def Layout.fits (params : List Byte) : Layout → Bool
  | .fixed n => decide (params.length = n)
  | .counted f size => (params[f - 1]?).any fun n => decide (params.length = f + n.toNat * size)

theorem layoutMatches_of_some {code : Byte} {layout : Layout} (h : layoutOf code = some layout) (params : List Byte) :
    layoutMatches code params = layout.fits params := by
  unfold layoutMatches
  rw [h]
  cases layout with
  | fixed n => rfl
  | counted f size =>
    unfold Layout.fits
    dsimp only
    cases params[f - 1]? <;> rfl

theorem layoutMatches_of_none {code : Byte} (h : layoutOf code = none) (params : List Byte) :
    layoutMatches code params = false := by
  unfold layoutMatches
  rw [h]

/-- A form accepts the parameter bytes of a layout, and no others. -/
def FormOf {α : Type} (form : List Byte → Option α) (layout : Layout) : Prop :=
  ∀ params, (form params).isSome = layout.fits params

section
variable {α : Type} {form : List Byte → Option α}

theorem FormOf.nil {a : α} (hnil : form [] = some a) (hcons : ∀ b rest, form (b :: rest) = none) : FormOf form (.fixed 0)
  | [] => by rw [hnil]; rfl
  | b :: rest => by rw [hcons]; rfl

theorem FormOf.cons {n : Nat} (hnil : form [] = none) (hrest : ∀ b, FormOf (fun rest => form (b :: rest)) (.fixed n)) :
    FormOf form (.fixed (n + 1))
  | [] => by rw [hnil]; rfl
  | b :: rest => (hrest b rest).trans (by simp [Layout.fits])

/-- A byte before a counted layout. -/
theorem FormOf.cons_counted {f size : Nat} (hnil : form [] = none)
    (hrest : ∀ b, FormOf (fun rest => form (b :: rest)) (.counted (f + 1) size)) : FormOf form (.counted (f + 2) size)
  | [] => by rw [hnil]; rfl
  | b :: rest => (hrest b rest).trans (congrArg (Option.any · rest[f]?) (funext fun n =>
      decide_eq_decide.mpr (by rw [List.length_cons]; omega)))

theorem FormOf.map {β : Type} {layout : Layout} (h : FormOf form layout) (g : α → β) :
    FormOf (fun params => (form params).map g) layout := fun params => Option.isSome_map.trans (h params)

end

theorem formNone_layout : FormOf formNone (.fixed 0) := .nil rfl fun _ _ => rfl

theorem formByte_layout : FormOf formByte (.fixed 1) := .cons rfl fun _ => .nil rfl fun _ _ => rfl

theorem formTwoBytes_layout : FormOf formTwoBytes (.fixed 2) := .cons rfl fun _ => .cons rfl fun _ => .nil rfl fun _ _ => rfl

theorem formWord_layout : FormOf formWord (.fixed 2) := .cons rfl fun _ => .cons rfl fun _ => .nil rfl fun _ _ => rfl

theorem formLease_layout : FormOf formLease (.fixed 2) := .cons rfl fun _ => .cons rfl fun _ => .nil rfl fun _ _ => rfl

theorem formLeaseByte_layout : FormOf formLeaseByte (.fixed 3) :=
  .cons rfl fun _ => .cons rfl fun _ => .cons rfl fun _ => .nil rfl fun _ _ => rfl

theorem formList_layout : FormOf formList (.fixed 4) :=
  .cons rfl fun _ => .cons rfl fun _ => .cons rfl fun _ => .cons rfl fun _ => .nil rfl fun _ _ => rfl

theorem formHandleWord_layout : FormOf formHandleWord (.fixed 4) :=
  .cons rfl fun _ => .cons rfl fun _ => .cons rfl fun _ => .cons rfl fun _ => .nil rfl fun _ _ => rfl

theorem formHandleValue_layout : FormOf formHandleValue (.fixed 6) :=
  .cons rfl fun _ => .cons rfl fun _ => .cons rfl fun _ => .cons rfl fun _ => .cons rfl fun _ => .cons rfl fun _ =>
    .nil rfl fun _ _ => rfl

theorem formLeaseHandleValue_layout : FormOf formLeaseHandleValue (.fixed 8) :=
  .cons rfl fun _ => .cons rfl fun _ => .cons rfl fun _ => .cons rfl fun _ => .cons rfl fun _ => .cons rfl fun _ =>
    .cons rfl fun _ => .cons rfl fun _ => .nil rfl fun _ _ => rfl

theorem formSettings_layout : FormOf formSettings (.fixed 9) :=
  .cons rfl fun _ => .cons rfl fun _ => .cons rfl fun _ => .cons rfl fun _ => .cons rfl fun _ => .cons rfl fun _ =>
    .cons rfl fun _ => .cons rfl fun _ => .cons rfl fun _ => .nil rfl fun _ _ => rfl

theorem formCount_layout (size : Nat) : FormOf (formCount size) (.counted 1 size)
  | [] => rfl
  | n :: rest => by simp [formCount, Layout.fits, Nat.add_comm, apply_ite Option.isSome]

theorem formName_layout : FormOf formName (.counted 1 1)
  | [] => rfl
  | n :: name => by simp [formName, Layout.fits, Nat.add_comm, apply_ite Option.isSome]

theorem formByteName_layout : FormOf formByteName (.counted 2 1) := .cons_counted rfl fun _ => formName_layout.map _

theorem formHandles_layout : FormOf formHandles (.counted 1 2) := (formCount_layout 2).map _

theorem formRevisions_layout : FormOf formRevisions (.counted 1 4) := (formCount_layout 4).map _

theorem formLeaseHandles_layout : FormOf formLeaseHandles (.counted 3 2) :=
  .cons_counted rfl fun _ => .cons_counted rfl fun _ => formHandles_layout.map _

theorem formWrite_layout : FormOf formWrite (.counted 3 6) :=
  .cons_counted rfl fun _ => .cons_counted rfl fun _ => (formCount_layout 6).map _

/-! ## What a rule answers (R154) -/

/-- A result other than OK and HELD_ELSEWHERE carries no fields (R154). -/
def Response.FieldsLawful (r : Response) : Prop := r.result ≠ .ok → r.result ≠ .heldElsewhere → r.fields = []

theorem Response.fieldsLawful_answer (r : Result) : (answer r).FieldsLawful := fun _ _ => rfl

theorem Response.fieldsLawful_answerOk (fields : List Byte) : (answerOk fields).FieldsLawful := fun h _ => absurd rfl h

theorem State.fieldsLawful_heldElsewhere (s : State) (i : DirSlot) : (s.heldElsewhere i).FieldsLawful :=
  fun _ h => absurd rfl h

/-- What the rule of a request comes to: a run of changes, and a response as R154 has it. -/
structure Answers (s : State) (out : State × Response) : Prop where
  follows : Follows s out.1
  fields : out.2.FieldsLawful

section
variable {s t : State}

theorem Answers.answer (h : Follows s t) (r : Result) : Answers s (t, answer r) := ⟨h, Response.fieldsLawful_answer r⟩

theorem Answers.answerOk (h : Follows s t) (fields : List Byte) : Answers s (t, answerOk fields) :=
  ⟨h, Response.fieldsLawful_answerOk fields⟩

theorem Answers.unchanged (r : Result) : Answers s (s, Machine.answer r) := .answer (.refl s) r

theorem Answers.reading {α : Type} {f : PortId → α → State → Response} {p : PortId} {a : α}
    (h : (f p a s).FieldsLawful) : Answers s (reading f p a s) := ⟨.refl s, h⟩

end

/-! ## The rules of the requests -/

section
variable {s : State} {p : PortId}

theorem Answers.onNodeSlot {act : NodeSlot → State → State × Response} (h : ∀ n, Answers s (act n s)) (n : Nat) :
    Answers s (onNodeSlot act p n s) := by
  unfold Machine.onNodeSlot
  split
  · exact h _
  · exact .unchanged _

theorem Answers.onLinkNumber {act : LinkId → State → State × Response} (h : ∀ l, Answers s (act l s)) (n : Nat) :
    Answers s (onLinkNumber act p n s) := by
  unfold Machine.onLinkNumber
  split
  · exact h _
  · exact .unchanged _

/-! ### Requests that report -/

theorem lookupAnswer_fields (name : Text) : (lookupAnswer p name s).FieldsLawful := by
  unfold lookupAnswer
  split
  · split
    · exact Response.fieldsLawful_answerOk _
    · exact Response.fieldsLawful_answer _
  · exact Response.fieldsLawful_answer _

theorem listPointsAnswer_fields (a : Nat × Byte × Byte) : (listPointsAnswer p a s).FieldsLawful := by
  unfold listPointsAnswer
  split
  · exact Response.fieldsLawful_answerOk _
  · exact Response.fieldsLawful_answer _

theorem describePointAnswer_fields (h : Nat) : (describePointAnswer p h s).FieldsLawful := by
  unfold describePointAnswer
  split
  · exact Response.fieldsLawful_answer _
  · exact Response.fieldsLawful_answerOk _

theorem readAnswer_fields (hs : List Nat) : (readAnswer p hs s).FieldsLawful := by
  unfold readAnswer
  split
  · exact Response.fieldsLawful_answerOk _
  · exact Response.fieldsLawful_answer _

theorem leaseInfoAnswer_fields (a : (Nat × Nat) × Nat) : (leaseInfoAnswer p a s).FieldsLawful := by
  unfold leaseInfoAnswer
  split
  · exact Response.fieldsLawful_answer _
  split
  · exact Response.fieldsLawful_answer _
  split
  · exact Response.fieldsLawful_answer _
  · exact Response.fieldsLawful_answerOk _

/-! ### Requests on nodes and links -/

theorem answers_nameNode (a : Nat × Text) : Answers s (nameNode p a s) := by
  unfold nameNode
  dsimp only
  split
  · split
    · exact .unchanged _
    split
    · exact .unchanged _
    split
    · exact .unchanged _
    split
    · exact .unchanged _
    · exact .answer ((follows_setNameMap s _).trans (follows_setNode _ _ _)) _
  · exact .unchanged _

theorem answers_rescanNode (n : NodeSlot) : Answers s (rescanNode n s) := by
  unfold rescanNode
  split
  · exact .answer (follows_setNode _ _ _) _
  · exact .unchanged _

theorem answers_excludeNode (n : NodeSlot) : Answers s (excludeNode n s) := by
  unfold excludeNode
  dsimp only
  split
  · exact .unchanged _
  · exact .answer ((follows_withdrawNode s n).trans (follows_setNode _ _ _)) _

theorem answers_includeNode (n : NodeSlot) : Answers s (includeNode n s) := by
  unfold includeNode
  split
  · exact .answer (follows_setNode _ _ _) _
  · exact .unchanged _

theorem answers_forgetNode (n : NodeSlot) : Answers s (forgetNode n s) := by
  unfold forgetNode
  dsimp only
  split
  · exact .unchanged _
  · exact .answer ((follows_withdrawNode s n).trans (follows_setNode _ _ _)) _

theorem answers_startLinkRule (l : LinkId) : Answers s (startLinkRule l s) := by
  unfold startLinkRule State.startLink
  split
  · exact .unchanged _
  · exact .unchanged _
  · exact .answer (((follows_setLink s l _).trans (follows_mapNodes _ _)).trans (follows_startCycle _ l)) _

theorem answers_stopLinkRule (l : LinkId) : Answers s (stopLinkRule l s) := by
  unfold stopLinkRule
  split
  · exact .unchanged _
  · exact .unchanged _
  · exact .answer (follows_setLink _ _ _) _

theorem answers_setLinkRule (a : Nat × Byte × Nat × Nat × Nat × Nat × Nat × BitVec 16) : Answers s (setLinkRule p a s) := by
  unfold setLinkRule
  split
  · exact .unchanged _
  split
  · exact .unchanged _
  split
  · exact .unchanged _
  split
  · exact .unchanged _
  · exact .answer ((follows_setLink s _ _).trans (follows_loseNodes _ _ _)) _

/-! ### Requests on values -/

theorem answers_writePoints (a : (Nat × Nat) × List (Nat × Word32)) : Answers s (writePoints p a s) := by
  refine ⟨follows_writePoints s p a, ?_⟩
  unfold writePoints
  dsimp only
  repeat' split
  all_goals exact Response.fieldsLawful_answer _

theorem answers_setSafePoint (a : (Nat × Nat) × Nat × Word32) : Answers s (setSafePoint p a s) := by
  refine ⟨follows_setSafePoint s p a, ?_⟩
  unfold setSafePoint
  repeat' split
  all_goals exact Response.fieldsLawful_answer _

theorem answers_substitutePoint (a : Nat × Word32) : Answers s (substitutePoint p a s) := by
  refine ⟨follows_substitutePoint s p a, ?_⟩
  unfold substitutePoint
  repeat' split
  all_goals exact Response.fieldsLawful_answer _

theorem answers_unsubstitutePoint (h : Nat) : Answers s (unsubstitutePoint p h s) := by
  refine ⟨follows_unsubstitutePoint s p h, ?_⟩
  unfold unsubstitutePoint
  repeat' split
  all_goals exact Response.fieldsLawful_answer _

/-! ### Requests on leases -/

theorem answers_openLease (term : Nat) : Answers s (openLease p term s) := by
  unfold openLease
  split
  · exact .unchanged _
  rename_i hterm
  split
  · exact .unchanged _
  · rename_i k hk
    have hfree := eq_of_beq ((lowest_eq_some _ _ _).mp hk).1
    exact .answerOk (follows_setLease (.opened p term hfree (by omega) (by omega))) _

theorem answers_claimLease (a : (Nat × Nat) × List Nat) : Answers s (claimLease p a s) := by
  refine ⟨follows_claimLease s p a, ?_⟩
  unfold claimLease
  repeat' split
  any_goals exact Response.fieldsLawful_answer _
  exact s.fieldsLawful_heldElsewhere _

theorem answers_releaseLease (a : (Nat × Nat) × List Nat) : Answers s (releaseLease p a s) := by
  unfold releaseLease
  split
  · exact .unchanged _
  split
  · exact .unchanged _
  · exact .answerOk ((follows_releaseMembers s _).trans (follows_setLease (.released _ List.filter_sublist))) _

theorem answers_renewLease (h : Nat × Nat) : Answers s (renewLease p h s) := by
  unfold renewLease
  split
  · exact .unchanged _
  rename_i k hk
  dsimp only
  split
  · exact .unchanged _
  · rename_i hlapsed
    exact .answerOk (follows_setLease (.renewed (State.leaseHeldBy_spec hk).2.1 hlapsed)) _

theorem answers_closeLeaseRule (h : Nat × Nat) : Answers s (closeLeaseRule p h s) := by
  unfold closeLeaseRule
  split
  · exact .unchanged _
  · exact .answer ((follows_releaseMembers s _).trans (follows_setLease .freed)) _

theorem answers_revokeLease (h : Nat × Nat) : Answers s (revokeLease p h s) := by
  unfold revokeLease
  split
  · exact .unchanged _
  rename_i k hk
  split
  · exact .unchanged _
  · rename_i hlapsed
    exact .answer (follows_lapse s k _ (State.leaseNamed_spec hk).2.1 hlapsed) _

/-! ### Requests on watches and sessions -/

theorem Answers.entriesRequest {α : Type} {act : PortId → State → α → State × Result}
    (h : ∀ p s a, Follows s (act p s a).1) (as : List α) : Answers s (entriesRequest act p as s) := by
  refine ⟨follows_entriesRequest h s p as, ?_⟩
  unfold Machine.entriesRequest
  split
  · exact Response.fieldsLawful_answer _
  · exact Response.fieldsLawful_answerOk _

theorem answers_setDeadband (a : Nat × Nat) : Answers s (setDeadband p a s) := by
  refine ⟨follows_setDeadband s p a, ?_⟩
  unfold setDeadband
  repeat' split
  all_goals exact Response.fieldsLawful_answer _

theorem answers_nextChanges (u : Unit) : Answers s (nextChanges p u s) := by
  refine .answerOk ?_ _
  exact follows_setPort rfl rfl rfl rfl rfl

theorem answers_openSession (u : Unit) : Answers s (openSession p u s) := by
  have hopen (t : State) :
      Follows t (t.setPort p { t.port p with sessionOpen := true, marksEnabled := true, lapsesEnabled := true }) :=
    follows_setPort rfl rfl rfl rfl rfl
  unfold openSession
  dsimp only
  split
  · exact .answerOk ((follows_closeSession s p).trans (hopen _)) _
  · exact .answerOk (hopen s) _

theorem answers_setAttention (a : Nat × Nat) : Answers s (setAttention p a s) := by
  unfold setAttention
  split
  · exact .unchanged _
  · refine .answer ?_ _
    exact follows_setPort rfl rfl rfl rfl rfl

end

/-! ## Every command of the request engine (R152, R153) -/

/-- The common checks a request of a code must pass (R153): DEVICE_INFO and POLL are answered in FAILED, every request but those two and
OPEN_SESSION needs an open session, and some need the supervisor role. -/
def policyOf (code : Byte) : Policy where
  inFailed := code == reqDeviceInfo || code == reqPoll
  session := requestCodes.contains code && !([reqDeviceInfo, reqOpenSession, reqPoll].contains code)
  supervisor := supervisorRequests.contains code

/-- A command grants the requests of a code: by the policy and the layout of the code, and by a rule. -/
structure Serves (c : Instr) (code : Byte) {α : Type} (form : List Byte → Option α)
    (act : PortId → α → State → State × Response) : Prop where
  exec_eq : ∀ s, exec c s = .next (s.grantOf (grants c) (policyOf code) form act)
  layout : ∀ params, (form params).isSome = layoutMatches code params
  answers : ∀ s p a, Answers s (act p a s)

/-- The grant of a code that has a layout. -/
theorem serves_of_layout {c : Instr} {code mine : Byte} (hcode : (code == mine) = true) {α : Type}
    {form : List Byte → Option α} {act : PortId → α → State → State × Response} {layout : Layout}
    (hexec : ∀ s, exec c s = .next (s.grantOf (grants c) (policyOf mine) form act)) (hlayout : layoutOf mine = some layout)
    (hform : FormOf form layout) (hanswers : ∀ {s p} a, Answers s (act p a s)) :
    ∃ (α : Type) (form : List Byte → Option α) (act : PortId → α → State → State × Response), Serves c code form act := by
  obtain rfl := eq_of_beq hcode
  exact ⟨α, form, act, hexec, fun params => (hform params).trans (layoutMatches_of_some hlayout params).symm,
    fun _ _ a => hanswers a⟩

/-- A code that names no request has no layout, and no check but that of FAILED. -/
theorem layoutOf_policyOf_unknown {code : Byte} (h : requestCodes.contains code = false) :
    layoutOf code = none ∧ policyOf code = ⟨false, false, false⟩ := by
  revert code
  decide +kernel

theorem exec_serves {c : Instr} {code : Byte} (h : grants c code = true) :
    ∃ (α : Type) (form : List Byte → Option α) (act : PortId → α → State → State × Response), Serves c code form act := by
  cases c
  case reset | resetEnd | checkEnd | windowOpen | windowClose | leaseClockTick | leaseExpiry | cycleTimerExpiry | callBuild |
      attemptRetry | answerReceived | replyTimeout | answerBadLength | answerTruncated | framingFault |
      broadcastParkCompletion => cases h
  case pollRequest =>
    obtain rfl := eq_of_beq h
    exact ⟨Unit, formNever, reading fun _ _ _ => answer .badRequest, fun _ => rfl,
      fun params => (layoutMatches_of_none rfl params).symm, fun _ _ _ => .unchanged _⟩
  case unknownRequest =>
    obtain ⟨hlayout, hpolicy⟩ := layoutOf_policyOf_unknown (Bool.not_eq_true' _ ▸ h)
    exact ⟨Unit, formNever, reading fun _ _ _ => answer .badRequest, fun _ => by rw [hpolicy]; rfl,
      fun params => (layoutMatches_of_none hlayout params).symm, fun _ _ _ => .unchanged _⟩
  case lookup => exact serves_of_layout h (fun _ => rfl) rfl formName_layout fun a => .reading (lookupAnswer_fields a)
  case listPoints => exact serves_of_layout h (fun _ => rfl) rfl formList_layout fun a => .reading (listPointsAnswer_fields a)
  case describePoint => exact serves_of_layout h (fun _ => rfl) rfl formWord_layout fun a => .reading (describePointAnswer_fields a)
  case pointSummary => exact serves_of_layout h (fun _ => rfl) rfl formNone_layout fun _ => .answerOk (.refl _) _
  case nodeInfo => exact serves_of_layout h (fun _ => rfl) rfl formByte_layout (.onNodeSlot fun _ => .answerOk (.refl _) _)
  case listNodes => exact serves_of_layout h (fun _ => rfl) rfl formNone_layout fun _ => .answerOk (.refl _) _
  case nameNode => exact serves_of_layout h (fun _ => rfl) rfl formByteName_layout answers_nameNode
  case rescanNode => exact serves_of_layout h (fun _ => rfl) rfl formByte_layout (.onNodeSlot answers_rescanNode)
  case excludeNode => exact serves_of_layout h (fun _ => rfl) rfl formByte_layout (.onNodeSlot answers_excludeNode)
  case includeNode => exact serves_of_layout h (fun _ => rfl) rfl formByte_layout (.onNodeSlot answers_includeNode)
  case forgetNode => exact serves_of_layout h (fun _ => rfl) rfl formByte_layout (.onNodeSlot answers_forgetNode)
  case startLink => exact serves_of_layout h (fun _ => rfl) rfl formByte_layout (.onLinkNumber answers_startLinkRule)
  case stopLink => exact serves_of_layout h (fun _ => rfl) rfl formByte_layout (.onLinkNumber answers_stopLinkRule)
  case setLink => exact serves_of_layout h (fun _ => rfl) rfl formSettings_layout answers_setLinkRule
  case linkStatus => exact serves_of_layout h (fun _ => rfl) rfl formByte_layout (.onLinkNumber fun _ => .answerOk (.refl _) _)
  case read => exact serves_of_layout h (fun _ => rfl) rfl formHandles_layout fun a => .reading (readAnswer_fields a)
  case write => exact serves_of_layout h (fun _ => rfl) rfl formWrite_layout answers_writePoints
  case setSafe => exact serves_of_layout h (fun _ => rfl) rfl formLeaseHandleValue_layout answers_setSafePoint
  case substitute => exact serves_of_layout h (fun _ => rfl) rfl formHandleValue_layout answers_substitutePoint
  case unsubstitute => exact serves_of_layout h (fun _ => rfl) rfl formWord_layout answers_unsubstitutePoint
  case openLease => exact serves_of_layout h (fun _ => rfl) rfl formWord_layout answers_openLease
  case claim => exact serves_of_layout h (fun _ => rfl) rfl formLeaseHandles_layout answers_claimLease
  case release => exact serves_of_layout h (fun _ => rfl) rfl formLeaseHandles_layout answers_releaseLease
  case renew => exact serves_of_layout h (fun _ => rfl) rfl formLease_layout answers_renewLease
  case closeLease => exact serves_of_layout h (fun _ => rfl) rfl formLease_layout answers_closeLeaseRule
  case revoke => exact serves_of_layout h (fun _ => rfl) rfl formLease_layout answers_revokeLease
  case leaseInfo => exact serves_of_layout h (fun _ => rfl) rfl formLeaseByte_layout fun a => .reading (leaseInfoAnswer_fields a)
  case watch => exact serves_of_layout h (fun _ => rfl) rfl formHandles_layout (.entriesRequest follows_watchEntry)
  case unwatch => exact serves_of_layout h (fun _ => rfl) rfl formHandles_layout (.entriesRequest follows_unwatchEntry)
  case setDeadband => exact serves_of_layout h (fun _ => rfl) rfl formHandleWord_layout answers_setDeadband
  case nextChanges => exact serves_of_layout h (fun _ => rfl) rfl formNone_layout answers_nextChanges
  case ackChanges => exact serves_of_layout h (fun _ => rfl) rfl formRevisions_layout (.entriesRequest follows_ackEntry)
  case deviceInfo => exact serves_of_layout h (fun _ => rfl) rfl formNone_layout fun _ => .answerOk (.refl _) _
  case openSession => exact serves_of_layout h (fun _ => rfl) rfl formNone_layout answers_openSession
  case closeSession => exact serves_of_layout h (fun _ => rfl) rfl formNone_layout fun _ => .answer (follows_closeSession _ _) _
  case setAttention => exact serves_of_layout h (fun _ => rfl) rfl formTwoBytes_layout answers_setAttention
  case resetDevice => exact serves_of_layout h (fun _ => rfl) rfl formNone_layout fun _ => .unchanged _

/-! ## One grant (R152, R153, R154) -/

/-- The grant of the next request: the common checks and the rule, and then the end of the grant. -/
theorem State.grantOf_of_next {α : Type} {s : State} {p : PortId} {e : PortSlot} (hnext : s.nextRequest = some (p, e))
    {mine : Byte → Bool} (hmine : mine e.code = true) (pol : Policy) (form : List Byte → Option α)
    (act : PortId → α → State → State × Response) :
    s.grantOf mine pol form act =
      (s.answered pol form act p e.params).1.finishGrant p (s.answered pol form act p e.params).2 := by
  unfold State.grantOf
  rw [hnext]
  exact if_pos hmine

/-- A request that the common checks refuse is answered with no fields, and changes nothing else (R153, R154). -/
theorem answers_answered {α : Type} {s : State} {p : PortId} {act : PortId → α → State → State × Response}
    (h : ∀ a, Answers s (act p a s)) (pol : Policy) (form : List Byte → Option α) (params : List Byte) :
    Answers s (s.answered pol form act p params) := by
  unfold State.answered
  split
  · exact .unchanged _
  split
  · exact .unchanged _
  split
  · exact .unchanged _
  split
  · exact .unchanged _
  · exact h _

/-- The response is written into the earliest WAITING slot (R152). -/
theorem answerSlots_append (resp : Response) {before : List PortSlot} (hdone : ∀ d ∈ before, d.response.isSome = true)
    {e : PortSlot} (hwaiting : e.response = none) (after : List PortSlot) :
    answerSlots resp (before ++ e :: after) = before ++ { e with response := some resp } :: after := by
  induction before with
  | nil => exact if_pos (by rw [PortSlot.waiting, hwaiting]; rfl)
  | cons d rest ih =>
    obtain ⟨hd, hrest⟩ := List.forall_mem_cons.mp hdone
    rw [List.cons_append, answerSlots, if_neg (by rw [PortSlot.waiting, Option.isNone_eq_false_iff.mpr hd]; exact nofun),
      ih hrest]
    rfl

/-- Settles O13: the next request's slot takes the response that its checks and its rule give, and the rule's changes touch no slot. -/
theorem grantAnswersOneSlot : Obligations.GrantAnswersOneSlot := by
  intro c s p e hnext hgrants
  obtain ⟨α, form, act, hserves⟩ := exec_serves hgrants
  obtain ⟨hfollows, hfields⟩ := answers_answered (hserves.answers s p) (policyOf e.code) form e.params
  generalize hout : s.answered (policyOf e.code) form act p e.params = out at hfollows hfields
  obtain ⟨u, resp⟩ := out
  have hkeeps : s.KeepsPorts u := hfollows.keepsPorts
  have hexec : exec c s = .next (u.finishGrant p resp) := by
    rw [hserves.exec_eq, State.grantOf_of_next hnext hgrants, hout]
  obtain ⟨-, hfirst, -⟩ := (s.nextRequest_eq_some p e).mp hnext
  obtain ⟨before, after, hslots, hwaiting, hdone⟩ := ((s.port p).firstWaiting_eq_some e).mp hfirst
  refine ⟨u.finishGrant p resp, before, after, resp, hexec, hslots, hdone, ?_, u.finishGrant_grantPointer p resp, hfields,
    fun q hq => ?_, fun q => ?_, (u.finishGrant_device p resp).trans hkeeps.device,
    (u.finishGrant_supervisors p resp).trans hkeeps.supervisors⟩
  · rw [State.finishGrant_port, if_pos rfl, hkeeps.slots p, hslots]
    exact answerSlots_append resp hdone hwaiting after
  · rw [State.finishGrant_port, if_neg hq, hkeeps.slots q]
  · rw [State.finishGrant_port, ← hkeeps.window q, ← hkeeps.frameError q, ← hkeeps.overrun q]
    split
    · rename_i hq; rw [hq]; exact ⟨rfl, rfl, rfl⟩
    · exact ⟨rfl, rfl, rfl⟩

end Sys2Proof.Machine
end

section
/-! The common checks of every request, in their order (R153). -/

namespace Sys2Proof.Machine

section
variable {α : Type} {s : State} {p : PortId} {pol : Policy} {form : List Byte → Option α} {params : List Byte} {a : α}
  {act : PortId → α → State → State × Response}

/-- In FAILED a request is answered DEVICE_FAILED, but for those answered there (R153, R163). -/
theorem State.answered_of_failed (hfailed : s.device = .failed) (hpol : pol.inFailed = false) :
    s.answered pol form act p params = (s, ⟨.deviceFailed, []⟩) := if_pos ⟨hfailed, hpol⟩

theorem State.answered_of_badForm (hserved : s.device = .failed → pol.inFailed = true) (hform : form params = none) :
    s.answered pol form act p params = (s, ⟨.badRequest, []⟩) := by
  have hnot : ¬(s.device = .failed ∧ pol.inFailed = false) := fun ⟨hfailed, hpol⟩ => by
    rw [hserved hfailed] at hpol; cases hpol
  rw [State.answered, if_neg hnot, hform]
  rfl

theorem State.answered_of_noSession (hready : s.device = .ready) (hform : form params = some a) (hpol : pol.session = true)
    (hclosed : (s.port p).sessionOpen = false) : s.answered pol form act p params = (s, ⟨.noSession, []⟩) := by
  rw [State.answered, if_neg (by rw [hready]; exact nofun), hform]
  exact if_pos ⟨hpol, hclosed⟩

theorem State.answered_of_notPermitted (hready : s.device = .ready) (hform : form params = some a)
    (hopen : (s.port p).sessionOpen = true) (hpol : pol.supervisor = true) (hrole : s.isSupervisor p = false) :
    s.answered pol form act p params = (s, ⟨.notPermitted, []⟩) := by
  rw [State.answered, if_neg (by rw [hready]; exact nofun), hform]
  dsimp only
  rw [if_neg (by rw [hopen]; exact nofun), if_pos ⟨hpol, hrole⟩]
  rfl

end

/-- A grant of the next request makes the common checks by the policy and the layout of its code (R153). -/
theorem exec_checks {s : State} {p : PortId} {code : Byte} {params : List Byte} (hnext : s.nextIs p code params) {c : Instr}
    (hgrants : grants c code = true) :
    ∃ (α : Type) (form : List Byte → Option α) (act : PortId → α → State → State × Response),
      (form params).isSome = layoutMatches code params ∧
        ∀ r, s.answered (policyOf code) form act p params = (s, r) → exec c s = .next (s.finishGrant p r) := by
  obtain ⟨⟨p', e⟩, he, heq⟩ := Option.map_eq_some_iff.mp hnext
  simp only [Prod.mk.injEq] at heq
  obtain ⟨rfl, rfl, rfl⟩ := heq
  obtain ⟨α, form, act, hserves⟩ := exec_serves hgrants
  refine ⟨α, form, act, hserves.layout e.params, fun r hr => ?_⟩
  rw [hserves.exec_eq, State.grantOf_of_next he hgrants, hr]

theorem policyOf_inFailed_eq_false {code : Byte} (hinfo : code ≠ reqDeviceInfo) (hpoll : code ≠ reqPoll) :
    (policyOf code).inFailed = false :=
  Bool.or_eq_false_iff.mpr ⟨beq_eq_false_iff_ne.mpr hinfo, beq_eq_false_iff_ne.mpr hpoll⟩

theorem policyOf_inFailed_eq_true {code : Byte} (h : code = reqDeviceInfo ∨ code = reqPoll) :
    (policyOf code).inFailed = true := by
  obtain rfl | rfl := h <;> rfl

/-- A request that some parameter bytes match needs an open session, but for DEVICE_INFO and OPEN_SESSION. -/
theorem policyOf_session {code : Byte} (hlayout : (layoutOf code).isSome = true) (hopen : code ≠ reqOpenSession)
    (hinfo : code ≠ reqDeviceInfo) : (policyOf code).session = true := by
  revert code
  decide +kernel

theorem layoutOf_isSome_of_matches {code : Byte} {params : List Byte} (h : layoutMatches code params = true) :
    (layoutOf code).isSome = true := by
  cases hlayout : layoutOf code with
  | none => rw [layoutMatches_of_none hlayout] at h; cases h
  | some _ => rfl

/-- Parameters that match no layout of the code are answered BAD_REQUEST, unless the part has FAILED and the code is answered DEVICE_FAILED. -/
theorem exec_of_badForm {s : State} {p : PortId} {code : Byte} {params : List Byte} (hnext : s.nextIs p code params)
    {c : Instr} (hgrants : grants c code = true) (hserved : s.device = .ready ∨ code = reqDeviceInfo ∨ code = reqPoll)
    (hbad : layoutMatches code params = false) : exec c s = .next (s.finishGrant p ⟨.badRequest, []⟩) := by
  obtain ⟨α, form, act, hform, hexec⟩ := exec_checks hnext hgrants
  have hnone : form params = none := Option.isNone_iff_eq_none.mp (Option.isSome_eq_false_iff.mp (hform.trans hbad))
  refine hexec _ (State.answered_of_badForm (fun hfailed => ?_) hnone)
  exact policyOf_inFailed_eq_true (hserved.resolve_left (by rw [hfailed]; exact nofun))

/-- Settles O14: the checks are made by the policy and the layout of the code, of which POLL and the codes of no request have none. -/
theorem commonChecksInOrder : Obligations.CommonChecksInOrder := by
  intro s p code params hnext
  refine ⟨fun c hgrants => ?checks, fun hpoll => ?poll, fun hready hunknown => ?unknown⟩
  case checks =>
    obtain ⟨α, form, act, hform, hexec⟩ := exec_checks hnext hgrants
    refine ⟨fun hfailed hinfo hpoll => ?_, exec_of_badForm hnext hgrants, fun hready hfits hopen hinfo hclosed => ?_,
      fun hready hfits hopen hcode hrole => ?_⟩
    · exact hexec _ (State.answered_of_failed hfailed (policyOf_inFailed_eq_false hinfo hpoll))
    · obtain ⟨a, ha⟩ := Option.isSome_iff_exists.mp (hform.trans hfits)
      have hsession := policyOf_session (layoutOf_isSome_of_matches hfits) hopen hinfo
      exact hexec _ (State.answered_of_noSession hready ha hsession hclosed)
    · obtain ⟨a, ha⟩ := Option.isSome_iff_exists.mp (hform.trans hfits)
      exact hexec _ (State.answered_of_notPermitted hready ha hopen hcode hrole)
  case poll =>
    exact exec_of_badForm hnext (beq_iff_eq.mpr hpoll) (.inr (.inr hpoll)) (layoutMatches_of_none (by rw [hpoll]; rfl) params)
  case unknown =>
    exact exec_of_badForm hnext (by rw [grants, hunknown]; rfl) (.inl hready)
      (layoutMatches_of_none (layoutOf_policyOf_unknown hunknown).1 params)

end Sys2Proof.Machine
end

section
/-! The queue of commands (log entry 2): what a step does on a queue with a front command and on an empty one. -/

namespace Sys2Proof.Machine

/-- Settles O1: on a queue with a front the step's match takes the branch that runs it with the rest. -/
theorem stepRunsTheFrontCommand : Obligations.StepRunsTheFrontCommand := by
  intro c rest s hqueue
  rw [step, hqueue]

/-- Settles O2: on an empty queue the step's match takes the branch that idles. -/
theorem emptyQueueIdles : Obligations.EmptyQueueIdles := by
  intro s hempty
  rw [step, hempty]

end Sys2Proof.Machine
end
